-- ==== Sys2Proof/Word.lean ====
section
/-! DEFINITION. The words of the block: every value is an unsigned bit vector of stated width, bit 0 the
least significant (00_scope.md R7). -/

namespace Sys2Proof

/-- One bit (a parity bit, a level of the XOR tree). -/
abbrev Bit := BitVec 1

/-- One byte of a frame (20_memory.md R40). -/
abbrev Byte := BitVec 8

/-- A frame: "the 16-bit unit exchanged over the bus in one phase" (FRAME_W = 16, R6). -/
abbrev Frame := BitVec 16

/-- A register address of the sensor (ADDR_W = 14, R6). -/
abbrev Addr := BitVec 14

/-- A request code, the contents of OPR (30_encoding.md R68, 10_state.md R22). -/
abbrev OpCode := BitVec 2

end Sys2Proof
end

