-- ==== Sys2Proof/Config.lean ====
section
/-! DEFINITION. The parameters of 00_scope.md R6 (a configuration record), the opaque cause types, and the
free values of what the spec leaves unspecified. -/

namespace Sys2Proof

/-- The Register Map's members, in the order the document lists them: "a closed enumeration of seven
14-bit addresses" (10_state.md R29). Registers of the sensor, not of the block. -/
inductive Register where
  | clearErrorFlag
  | programmingControl
  | otpZeroPosHigh
  | otpZeroPosLow
  | diagAgc
  | magnitude
  | angle
  deriving DecidableEq, Repr

/-- What a model knows of the chip-select line (10_state.md R25): active is low, inactive is high,
unknown is "the model may assume neither". -/
inductive Level where
  | active
  | inactive
  | unknown
  deriving DecidableEq, Repr

/-- Parameter DG_SPLIT (R6, conflict C1): which bits of a response are diag and gain.
`scenario` is the layout of the §8 example (diag 11:8, gain 7:0), `prose` the losing layout of §4.4
(diag 3:0, gain 15:8; R111). -/
inductive DgSplit where
  | scenario
  | prose
  deriving DecidableEq, Repr

/-- The cause a failed bus transfer reports, opaque to the block (R6 `BusCause`).
DESIGN CHOICE (log 10): any inhabited type serves; a number is taken. -/
structure BusCause where
  code : Nat
  deriving DecidableEq, Repr

/-- The cause a failed pin operation reports, opaque to the block (R6 `PinCause`).
DESIGN CHOICE (log 10): any inhabited type serves; a number is taken. -/
structure PinCause where
  code : Nat
  deriving DecidableEq, Repr

/-- The numeric literals the spec rests on, as R156 lists them (70_reset_and_hazards.md), "unaudited": kept in the
configuration record, "so that a corrected value changes one line". Two of them act in POST and MASK, `valueMask`
and `diagBound`; the others are held against the record's addresses and fields (`Config.literalsAgree`). -/
structure Literals where
  /-- The 14-bit mask, 0x3FFF. -/
  valueMask     : Frame
  /-- The address bound, 0x4000: an address lies below it. -/
  addrBound     : Nat
  /-- Angle's base frame, 0x7FFF: the frame before its parity bit is set. -/
  angleBase     : Frame
  /-- The diag bound, 0x10: a diag lies below it. -/
  diagBound     : Frame
  /-- The example bytes of the document's §8 (95_test_vectors.md S7, S8), two a frame, in bus order. -/
  scenarioBytes : List (Byte × Byte)
  deriving DecidableEq, Repr

/-- The literals as the document writes them. -/
def Literals.source : Literals where
  valueMask     := 0x3FFF#16
  addrBound     := 0x4000
  angleBase     := 0x7FFF#16
  diagBound     := 0x10#16
  scenarioBytes := [(0x3F#8, 0xFF#8), (0xFF#8, 0xFF#8), (0x00#8, 0x00#8), (0x12#8, 0x34#8)]

/-- The configuration record of R6, with the literals R156 asks to be kept in it. -/
structure Config where
  addrClearErrorFlag     : Addr
  addrProgrammingControl : Addr
  addrOtpZeroPosHigh     : Addr
  addrOtpZeroPosLow      : Addr
  addrDiagAgc            : Addr
  addrMagnitude          : Addr
  addrAngle              : Addr
  csReset                : Level
  dgSplit                : DgSplit
  lits                   : Literals
  deriving DecidableEq, Repr

/-- The defaults of R6. Angle is the source's; the other six addresses are PRESUMED (general knowledge,
93_implementation_defined.md G1; log 11). CS_RESET is decision D8 (log 5), DG_SPLIT conflict C1 (log 12). -/
def Config.standard : Config where
  addrClearErrorFlag     := 0x0001#14
  addrProgrammingControl := 0x0003#14
  addrOtpZeroPosHigh     := 0x0016#14
  addrOtpZeroPosLow      := 0x0017#14
  addrDiagAgc            := 0x3FFD#14
  addrMagnitude          := 0x3FFE#14
  addrAngle              := 0x3FFF#14
  csReset                := .inactive
  dgSplit                := .scenario
  lits                   := .source

/-- Free value: what OPR holds after the RESET instruction ("OPR <- unspecified", R140; U5; log 4). -/
opaque Config.freeOpr : Nat → OpCode

/-- Free value: what RSP holds after the RESET instruction ("RSP <- unspecified", R140; U5; log 4). -/
opaque Config.freeRsp : Nat → Frame

end Sys2Proof
end

