-- ==== Sys2Proof/Machine/Operands.lean ====
section
/-! DEFINITION. Operand forms: the Register Map (REGMAP, 10_state.md R29, R30), the parity codec (PARGEN,
40_parity_codec.md R80 to R88), the fields of a response frame and the bytes of a frame
(30_encoding.md R65 to R67). All total, pure functions (R129). -/

namespace Sys2Proof

/-! ### REGMAP -/

/-- The seven members in selector order (R29). -/
def Register.all : List Register :=
  [.clearErrorFlag, .programmingControl, .otpZeroPosHigh, .otpZeroPosLow, .diagAgc, .magnitude, .angle]

/-- The selector code `rsel` of a member (R29, decision D5): 0 to 6; 7 has no member. -/
def Register.rsel : Register → BitVec 3
  | .clearErrorFlag     => 0
  | .programmingControl => 1
  | .otpZeroPosHigh     => 2
  | .otpZeroPosLow      => 3
  | .diagAgc            => 4
  | .magnitude          => 5
  | .angle              => 6

/-- `ADDR(r)`: the address of a member (R29). -/
def Config.addr (c : Config) : Register → Addr
  | .clearErrorFlag     => c.addrClearErrorFlag
  | .programmingControl => c.addrProgrammingControl
  | .otpZeroPosHigh     => c.addrOtpZeroPosHigh
  | .otpZeroPosLow      => c.addrOtpZeroPosLow
  | .diagAgc            => c.addrDiagAgc
  | .magnitude          => c.addrMagnitude
  | .angle              => c.addrAngle

/-- The constraint R6 puts on the parameters: the seven addresses are distinct. -/
def Config.wf (c : Config) : Bool := decide (Register.all.map c.addr).Nodup

/-- `REG_OF` (R30): the Register a request code selects; code 3 is reserved and selects none. -/
def regOf (op : OpCode) : Option Register :=
  if op = 0 then some .diagAgc
  else if op = 1 then some .magnitude
  else if op = 2 then some .angle
  else none

/-! ### PARGEN -/

/-- `popcount(v)`: the number of bits that are 1 (R8). -/
def popcount {n : Nat} (v : BitVec n) : Nat := ((List.range n).map v.getLsbD).count true

/-- `xorred(v)`: the XOR of all bits (R8). -/
def xorred {n : Nat} (v : BitVec n) : Bit :=
  BitVec.ofBool (((List.range n).map v.getLsbD).foldr Bool.xor false)

/-- `FOLD` (R81): four halving-and-XOR folds, 16 to 8 to 4 to 2 to 1 bits, upper half onto lower half. -/
def fold (x : Frame) : Bit :=
  let f8 : BitVec 8 := x.extractLsb' 8 8 ^^^ x.extractLsb' 0 8
  let f4 : BitVec 4 := f8.extractLsb' 4 4 ^^^ f8.extractLsb' 0 4
  let f2 : BitVec 2 := f4.extractLsb' 2 2 ^^^ f4.extractLsb' 0 2
  f2.extractLsb' 1 1 ^^^ f2.extractLsb' 0 1

/-- The shift form of the same bit (R81): `y ^= y >> 8; y ^= y >> 4; y ^= y >> 2; y ^= y >> 1; y[0]`. -/
def shiftFold (x : Frame) : Bit :=
  let y8 := x ^^^ (x >>> 8)
  let y4 := y8 ^^^ (y8 >>> 4)
  let y2 := y4 ^^^ (y4 >>> 2)
  let y1 := y2 ^^^ (y2 >>> 1)
  y1.extractLsb' 0 1

/-- The base `x = {0, 1, a}` of a command frame: bit 15 clear, bit 14 the read flag (R65, R80). -/
def commandBase (a : Addr) : Frame := 0b01#2 ++ a

/-- `ENC(a)` (R80): the base with bit 15 set to its parity. -/
def enc (a : Addr) : Frame :=
  let x := commandBase a
  x ||| ((fold x).setWidth 16 <<< 15)

/-- `ENCR(r) = ENC(ADDR(r))` (R88). -/
def encr (c : Config) (r : Register) : Frame := enc (c.addr r)

/-- The command frame of an operation, `ENC(ADDR(REG_OF(op)))` (R36, R93); none for the reserved code. -/
def commandFrame (c : Config) (op : OpCode) : Option Frame := (regOf op).map (encr c)

/-- The nop frame, the constant 0x0000 of the sequencer (R62). -/
def nopFrame : Frame := 0x0000#16

/-- The address bits 13:0 of a frame put on the bus (R61). -/
def frameAddr (f : Frame) : Addr := f.extractLsb' 0 14

/-- The parity bit 15 of a frame (R61). -/
def frameParity (f : Frame) : Bit := f.extractLsb' 15 1

/-- The read/write flag, bit 14 of a frame (R61): 1 means read. -/
def frameRead (f : Frame) : Bool := f.getLsbD 14

/-! ### Response fields and bytes -/

/-- `VAL(v) = v[13:0]` (R66). -/
def respVal (v : Frame) : Addr := v.extractLsb' 0 14

/-- `DIAG(v) = v[11:8]` (R64, R66). -/
def respDiag (v : Frame) : BitVec 4 := v.extractLsb' 8 4

/-- `GAIN(v) = v[7:0]` (R64, R66). -/
def respGain (v : Frame) : BitVec 8 := v.extractLsb' 0 8

/-- `VAL(v) = v & 0x3FFF` (R66) as POST computes it, with the mask of the configuration record (R156). -/
def maskedValue (l : Literals) (v : Frame) : Addr := (v &&& l.valueMask).setWidth 14

/-- The diag in the low bits of `x`, `x & 0xF`, below the diag bound of the configuration record (R66, R156):
of `v >> 8` it is `DIAG(v)`, of `v` itself the diag of the losing layout of conflict C1 (R111). -/
def lowDiag (l : Literals) (x : Frame) : BitVec 4 := (x &&& (l.diagBound - 1)).setWidth 4

/-- GAIN under the losing layout of conflict C1, `v[15:8]` (R111). -/
def respGainProse (v : Frame) : BitVec 8 := v.extractLsb' 8 8

/-- The literals of a record are "mutually consistent" (R156): every address lies below the address bound, the
14-bit mask and the diag bound are those of the fields they cut out, and Angle's base frame is the one its address
gives. A check of a record, which `Config.standard` passes; the machine's meanings do not ask for it. -/
def Config.literalsAgree (c : Config) : Bool :=
  Register.all.all (fun r => decide ((c.addr r).toNat < c.lits.addrBound))
    && c.lits.valueMask.toNat + 1 == c.lits.addrBound && c.lits.diagBound.toNat == 2 ^ 4
    && commandBase c.addrAngle == c.lits.angleBase

/-- The first byte of a frame on the bus, `f[15:8]` (R67, R40, R41). -/
def byte0 (f : Frame) : Byte := f.extractLsb' 8 8

/-- The second byte, `f[7:0]` (R67). -/
def byte1 (f : Frame) : Byte := f.extractLsb' 0 8

/-- The two bytes of a frame in bus order (R67). -/
def frameBytes (f : Frame) : List Byte := [byte0 f, byte1 f]

/-- `f = {byte0, byte1}` (R67). -/
def frameOfBytes (b0 b1 : Byte) : Frame := b0 ++ b1

/-- The frame `{st, val}` of a response (R63). -/
def responseFrame (st : BitVec 2) (val : Addr) : Frame := st ++ val

/-- The status bits `ST` of a response, `v[15:14]` (R63). -/
def respStatus (v : Frame) : BitVec 2 := v.extractLsb' 14 2

end Sys2Proof
end

