-- ==== Sys2Proof/Syntax.lean ====
section
/-! DEFINITION. The instructions: one constructor per row of spec/opcode_table.json. The REQ and SIGNAL rows
are what the host can cause (42_facade_ops.md R118); the CMD and NOP rows are the frames the block forms
(30_encoding.md R61, R62); the RSP row is the frame it receives (R63). -/

namespace Sys2Proof

inductive Instr where
  /-- Request code 0, `read_diag_gain` (R111). -/
  | rddg
  /-- Request code 1, `read_magnitude` (R112). -/
  | rdmag
  /-- Request code 2, `read_angle` (R113). -/
  | rdang
  /-- Request code 3, reserved (R71). -/
  | reserved3
  /-- The reset input sampled high, `construct` (R140). -/
  | reset
  /-- A CMD frame `p1aaaaaaaaaaaaaa`: the encoder on address `a` (R80); `p` is the word's bit 15. -/
  | enc (p : Bit) (a : Addr)
  /-- `ENC ClearErrorFlag` (R88). -/
  | encClearErrorFlag
  /-- `ENC ProgrammingControl` (R88). -/
  | encProgrammingControl
  /-- `ENC OtpZeroPosHigh` (R88). -/
  | encOtpZeroPosHigh
  /-- `ENC OtpZeroPosLow` (R88). -/
  | encOtpZeroPosLow
  /-- `ENC DiagAgc` (R88). -/
  | encDiagAgc
  /-- `ENC Magnitude` (R88). -/
  | encMagnitude
  /-- `ENC Angle` (R88). -/
  | encAngle
  /-- The nop frame 0x0000 (R62). -/
  | nop
  /-- A response frame received, status bits `st` and content `val` (R63). -/
  | rsp (st : BitVec 2) (val : Addr)
  deriving DecidableEq, Repr

/-- Where an instruction's bits stand: on the request code, on the reset input, on the frame the block
forms (formats CMD and NOP), on the frame it receives (format RSP) (R60; table column "format"). -/
inductive Channel where
  | req
  | rst
  | tx
  | rx
  deriving DecidableEq, Repr

end Sys2Proof
end

