-- ==== Sys2Proof/WellFormed.lean ====
section
/-! DEFINITION. Which instructions are well formed: what the spec calls an instruction of the block. -/

namespace Sys2Proof

/-- Is this address one of the seven of the Register Map (10_state.md R29)? -/
def Config.mapped (c : Config) (a : Addr) : Bool := Register.all.any fun r => c.addr r == a

/-- Well-formedness. The reserved request is rejected ("a well-formedness check on host programs rejects it",
30_encoding.md R71). A general CMD frame has the even-parity bit of its base (R72(c)) and an address that is
not one of the seven, whose frames have rows of their own (R88). Every other instruction is well formed:
the constructors' widths leave nothing out of range. -/
def wellFormed (c : Config) : Instr → Bool
  | .rddg | .rdmag | .rdang => true
  | .reserved3 => false
  | .reset => true
  | .enc p a => p == fold (commandBase a) && !c.mapped a
  | .encClearErrorFlag | .encProgrammingControl | .encOtpZeroPosHigh | .encOtpZeroPosLow => true
  | .encDiagAgc | .encMagnitude | .encAngle => true
  | .nop => true
  | .rsp _ _ => true

end Sys2Proof
end

