-- ==== Sys2Proof/Decode.lean ====
section
/-! DEFINITION. Decoding, total on any bytes, and the encoder after it (30_encoding.md, opcode_table.json).
A frame's bytes stand in bus order, most significant first (20_memory.md R40, R41); a request code or the
reset input is one byte whose upper bits are zero. -/

namespace Sys2Proof

/-- Why bytes are no instruction. -/
inductive DecodeError where
  /-- Not the fixed length of the format (R74). -/
  | wrongLength
  /-- A request code of more than two bits (R68). -/
  | codeTooWide
  /-- The reset input is not 1, so there is no reset (R32). -/
  | resetNotHigh
  /-- A frame with RW = 0 that is not the nop: the block never forms it and the spec gives it no meaning
  (R61, R72(a)). DESIGN CHOICE (log 26): it is no instruction. -/
  | writeFrame
  deriving DecidableEq, Repr

/-- A request code (R68, R71). -/
def decodeRequest (op : OpCode) : Instr :=
  if op = 0 then .rddg else if op = 1 then .rdmag else if op = 2 then .rdang else .reserved3

/-- The table row `ENC <register>` of a Register Map member (R88). -/
def instrOfRegister : Register → Instr
  | .clearErrorFlag     => .encClearErrorFlag
  | .programmingControl => .encProgrammingControl
  | .otpZeroPosHigh     => .encOtpZeroPosHigh
  | .otpZeroPosLow      => .encOtpZeroPosLow
  | .diagAgc            => .encDiagAgc
  | .magnitude          => .encMagnitude
  | .angle              => .encAngle

/-- A frame the block forms (R70): "frame `0x0000` is the nop; a frame with bit 14 set is a read of
`frame[13:0]`; anything else the block never sends". The seven frames of the Register Map have their own
rows; any other frame with bit 14 set is the general row, with its bit 15 kept (log 15).
A word of neither kind is no instruction (log 26). -/
def decodeCommand (c : Config) (f : Frame) : Except DecodeError Instr :=
  if f = nopFrame then .ok .nop
  else if frameRead f then
    match Register.all.find? fun r => encr c r == f with
    | some r => .ok (instrOfRegister r)
    | none   => .ok (.enc (frameParity f) (frameAddr f))
  else .error .writeFrame

/-- A frame received (R63, R73: every value is accepted). -/
def decodeResponse (f : Frame) : Instr := .rsp (respStatus f) (respVal f)

/-- The decoder: which channel the bytes stand on, and the bytes. -/
def decode (c : Config) : Channel → List Byte → Except DecodeError Instr
  | .req, [b] => if b.toNat < 4 then .ok (decodeRequest (b.setWidth 2)) else .error .codeTooWide
  | .rst, [b] => if b = 1 then .ok .reset else .error .resetNotHigh
  | .tx, [b0, b1] => decodeCommand c (frameOfBytes b0 b1)
  | .rx, [b0, b1] => .ok (decodeResponse (frameOfBytes b0 b1))
  | _, _ => .error .wrongLength

/-- The general CMD word `p1aaaaaaaaaaaaaa` (opcode_table.json, row ENC). -/
def commandWord (p : Bit) (a : Addr) : Frame := p ++ (0b1#1 ++ a)

/-- The encoder: the channel and the bytes of an instruction (opcode_table.json; R68, R61, R62, R63). -/
def encode (c : Config) : Instr → Channel × List Byte
  | .rddg      => (.req, [0])
  | .rdmag     => (.req, [1])
  | .rdang     => (.req, [2])
  | .reserved3 => (.req, [3])
  | .reset     => (.rst, [1])
  | .enc p a   => (.tx, frameBytes (commandWord p a))
  | .encClearErrorFlag     => (.tx, frameBytes (encr c .clearErrorFlag))
  | .encProgrammingControl => (.tx, frameBytes (encr c .programmingControl))
  | .encOtpZeroPosHigh     => (.tx, frameBytes (encr c .otpZeroPosHigh))
  | .encOtpZeroPosLow      => (.tx, frameBytes (encr c .otpZeroPosLow))
  | .encDiagAgc            => (.tx, frameBytes (encr c .diagAgc))
  | .encMagnitude          => (.tx, frameBytes (encr c .magnitude))
  | .encAngle              => (.tx, frameBytes (encr c .angle))
  | .nop       => (.tx, frameBytes nopFrame)
  | .rsp st v  => (.rx, frameBytes (responseFrame st v))

/-- The channel a table word of `nbits` bits is read on. The table's rows overlap where only their "format"
column tells them apart (RESET and RDMAG, NOP and RSP); the row with the narrower mask wins (log 16). A
16-bit word is a frame the block forms where it can be one, else a response. -/
def tableChannel (nbits w : Nat) : Option Channel :=
  if nbits = 1 then some .rst
  else if nbits ≤ 8 then some .req
  else if nbits = 16 then
    if BitVec.ofNat 16 w = nopFrame ∨ frameRead (BitVec.ofNat 16 w) then some .tx else some .rx
  else none

/-- The bytes of a table word on a channel. -/
def tableBytes (ch : Channel) (w : Nat) : List Byte :=
  match ch with
  | .req | .rst => [BitVec.ofNat 8 w]
  | .tx | .rx => frameBytes (BitVec.ofNat 16 w)

/-- The instruction the decoder reads from a word of spec/opcode_table.json, under the defaults of R6. -/
def decodeTableWord (nbits w : Nat) : Option Instr :=
  match tableChannel nbits w with
  | none => none
  | some ch =>
    match decode Config.standard ch (tableBytes ch w) with
    | .ok i => some i
    | .error _ => none

end Sys2Proof
end

