-- ==== Sys2Proof/Machine/State.lean ====
section
/-! DEFINITION. The state: the block's three registers (10_state.md R24), the environment state the spec
tracks (R25, R35), the ports, the event history (20_memory.md R56), and the model's own fields. Plain data. -/

namespace Sys2Proof.Machine

/-- The phase register PH (R21), three bits: codes 0 to 6 and the unreachable code 7. -/
inductive Phase where
  | idle
  | cSel
  | cXfer
  | cDesel
  | dSel
  | dXfer
  | dDesel
  /-- Code 7: "unreachable: no rule writes 7; a model gives it no step" (R21). -/
  | seven
  deriving DecidableEq, Repr

/-- The answer to a `PinSet` (R26). -/
inductive PinAnswer where
  | ok
  | err (c : PinCause)
  deriving DecidableEq, Repr

/-- The answer to a `BusXfer` (R27): the 16 bits clocked back, or a cause. -/
inductive BusAnswer where
  | ok (rx : Frame)
  | err (c : BusCause)
  deriving DecidableEq, Repr

/-- The inputs sampled at one clock edge (R32): the reset input, a request (R30), an answer of the pin
driver (R26), an answer of the bus side (R27). `none` and `false` where the signal is not raised. -/
structure Edge where
  rst : Bool := false
  req : Option OpCode := none
  pin : Option PinAnswer := none
  bus : Option BusAnswer := none
  deriving DecidableEq, Repr

/-- One entry of what is still to come in from outside (log 1): a clock edge, or a line of R75's program that
forms a frame (`ENC r`, the nop), which is "a pure function, not a host request". -/
inductive Input where
  | edge (e : Edge)
  | form (w : Frame)
  deriving DecidableEq, Repr

/-- The value POST returns (42_facade_ops.md R110): a pair for RDDG, 14 bits for RDMAG and RDANG. -/
inductive Reading where
  | diagGain (diag : BitVec 4) (gain : BitVec 8)
  | value (v : Addr)
  deriving DecidableEq, Repr

/-- A completion, the sum type of R28. -/
inductive Completion where
  | ok (r : Reading)
  | busErr (c : BusCause)
  | csErr (c : PinCause)
  deriving DecidableEq, Repr

/-- An event of the history (20_memory.md R56). -/
inductive Event where
  | accept (op : OpCode)
  | pinSet (l : Level) (a : PinAnswer)
  | busXfer (t : Frame) (a : BusAnswer)
  | complete (c : Completion)
  deriving DecidableEq, Repr

end Sys2Proof.Machine

namespace Sys2Proof.Machine

structure State where
  /-- PH (R21). -/
  ph : Phase
  /-- OPR (R22). -/
  opr : OpCode
  /-- RSP (R23). -/
  rsp : Frame
  /-- CSL, the chip-select line as far as the model knows it (R25). -/
  csl : Level
  /-- Model's own (log 8): the line was known INACTIVE when it was last asserted, so the sensor saw a fresh
  edge (60_exceptions.md R128). -/
  framed : Bool
  /-- PEND, the sensor's pending request (R35); `none` where it is unknown (log 8). -/
  pend : Option Addr
  /-- The completion port (R28): what it drives in this cycle. -/
  cpl : Option Completion
  /-- The event history (R56), newest first. -/
  events : List Event
  /-- Model's own (log 14): the frame the last CMD or NOP line formed. -/
  formed : Option Frame
  /-- The inputs still to come (log 1). -/
  inputs : List Input
  /-- Model's own (log 4): how many free values have been drawn. -/
  fresh : Nat
  /-- The configuration record (R6); no step writes it (log 13). -/
  cfg : Config
  deriving DecidableEq, Repr

/-- Why the machine stops in a state. -/
inductive Fault where
  /-- PH holds 7, which has no transition (R21, R98, U9). Raised by fetching, by a request and by an answer in
  that phase. Unreachable; safe. -/
  | phaseSeven
  /-- OPR holds the reserved code 3 where the command frame or the post-processing of the operation in progress
  is needed (R30, R110 give it none). Raised by the transitions of C_XFER and D_DESEL. Unreachable; safe. -/
  | operationThree
  deriving DecidableEq, Repr

/-- What the model gives no meaning. -/
inductive Refusal where
  /-- An instruction that has no meaning yet. Raised by exec's arms only; safe. -/
  | notModelled (mnemonic : String)
  /-- Request code 3: "a request with `req_op = 3` has no meaning" (R71, D13). Raised by RESERVED3; safe. -/
  | reservedRequest
  /-- An input whose bits are no instruction (R61, R72(a)). Raised by the step; safe. -/
  | undecodable (e : DecodeError)
  deriving DecidableEq, Repr

/-- The machine right after reset (R34, R140): PH is IDLE, the line is at CS_RESET, nothing is driven on the
completion port, the history is empty. DESIGN CHOICE: OPR = 0 and RSP = 0, which the spec leaves unspecified
(log 3); PEND = none (log 8); the model's own fields (log 4, log 8, log 14); no input yet (log 1). -/
def State.reset : State where
  ph     := .idle
  opr    := 0
  rsp    := 0
  csl    := Config.standard.csReset
  framed := false
  pend   := none
  cpl    := none
  events := []
  formed := none
  inputs := []
  fresh  := 0
  cfg    := Config.standard

end Sys2Proof.Machine
end

