-- ==== Sys2Proof/Machine/Flags.lean ====
section
/-! DEFINITION. The block has no flags or condition codes (10_state.md R24). What stands in their place: the
three-bit code of PH (R21), the status of a completion (60_exceptions.md R123) and its fields on the completion
port (30_encoding.md R69, 42_facade_ops.md R116). -/

namespace Sys2Proof.Machine

/-- The code of a phase (R21, decision D15). -/
def Phase.code : Phase → BitVec 3
  | .idle   => 0
  | .cSel   => 1
  | .cXfer  => 2
  | .cDesel => 3
  | .dSel   => 4
  | .dXfer  => 5
  | .dDesel => 6
  | .seven  => 7

/-- `cpl_status` (R123): 0 OK, 1 BUS_ERR, 2 CS_ERR; 3 is never produced. -/
def Completion.status : Completion → BitVec 2
  | .ok _     => 0
  | .busErr _ => 1
  | .csErr _  => 2

/-- `cpl_cause`, zero-extended to the field (R69); no value where the status is OK (U6). -/
def Completion.cause : Completion → Option Nat
  | .ok _     => none
  | .busErr c => some c.code
  | .csErr c  => some c.code

/-- Packing of a reading on `cpl_data[13:0]` (R116): `{0b00, diag, gain}`, or the 14 bits.
DESIGN CHOICE (log 12): under DG_SPLIT = `prose` R116's two formulas for RDDG disagree, `{0b00, diag, gain}` and
`v & MASK(0)` (R69 names both), and no rule says which holds; the model packs `{0b00, diag, gain}` there too. -/
def Reading.pack : Reading → Addr
  | .diagGain diag gain => 0b00#2 ++ (diag ++ gain)
  | .value v            => v

/-- `cpl_data`; no value where the status is an error (U6). -/
def Completion.data : Completion → Option Addr
  | .ok r     => some r.pack
  | .busErr _ => none
  | .csErr _  => none

/-- `MASK(op)` (R116): the response bits an operation returns, from the literals of the configuration record
(R156): the diag's bits above the eight of the gain for RDDG, 0x0FFF; else the 14-bit mask, 0x3FFF. -/
def dataMask (l : Literals) (op : OpCode) : Frame :=
  if op = 0 then ((l.diagBound - 1) <<< 8) ||| 0x00FF#16 else l.valueMask

end Sys2Proof.Machine
end

