-- ==== Sys2Proof/Machine/Ops.lean ====
section
/-! DEFINITION. The named operations over State: one update per field, the two primitives' effects on the
environment (10_state.md R25, R49), post-processing (42_facade_ops.md R110), completing an operation and
raising an error (60_exceptions.md R124). -/

namespace Sys2Proof.Machine

/-! ### One update per field -/

def State.setPh (p : Phase) (s : State) : State := { s with ph := p }
def State.setOpr (op : OpCode) (s : State) : State := { s with opr := op }
def State.setRsp (v : Frame) (s : State) : State := { s with rsp := v }
def State.setCsl (l : Level) (s : State) : State := { s with csl := l }
def State.setFramed (b : Bool) (s : State) : State := { s with framed := b }
def State.setPend (p : Option Addr) (s : State) : State := { s with pend := p }
def State.setCpl (c : Option Completion) (s : State) : State := { s with cpl := c }
def State.setEvents (es : List Event) (s : State) : State := { s with events := es }
def State.setFormed (f : Option Frame) (s : State) : State := { s with formed := f }
def State.setInputs (is : List Input) (s : State) : State := { s with inputs := is }
def State.setFresh (n : Nat) (s : State) : State := { s with fresh := n }

/-- Append an event to the history (R56). -/
def State.log (e : Event) (s : State) : State := s.setEvents (e :: s.events)

/-- The history in the order things happened (R56). -/
def State.history (s : State) : List Event := s.events.reverse

/-! ### Post-processing -/

/-- `POST(op, v)` (R110), under the parameters: DG_SPLIT for RDDG (R111), the mask and the diag bound (R156); no
value for the reserved code. -/
def post (c : Config) (op : OpCode) (v : Frame) : Option Reading :=
  if op = 0 then
    match c.dgSplit with
    | .scenario => some (.diagGain (lowDiag c.lits (v >>> 8)) (respGain v))
    | .prose    => some (.diagGain (lowDiag c.lits v) (respGainProse v))
  else if op = 1 then some (.value (maskedValue c.lits v))
  else if op = 2 then some (.value (maskedValue c.lits v))
  else none

/-! ### The primitives' effects on the environment -/

/-- A `PinSet(l)` has been answered (R25): `Ok` puts the line at `l`; `Err` leaves it UNKNOWN (decision D9,
log 6) and the sensor's pending request "unknown after a failure" (R158; log 8). The history records it (R56). -/
def pinSettled (l : Level) (a : PinAnswer) (s : State) : State :=
  match a with
  | .ok    => ((s.setFramed (l == .active && s.csl == .inactive)).setCsl l).log (.pinSet l .ok)
  | .err c => (((s.setFramed false).setCsl .unknown).setPend none).log (.pinSet l (.err c))

/-- A `BusXfer(t)` has been answered: the line stays where it was (R25). With `Ok` the sensor's pending request
becomes the one just sent if the sensor saw a fresh chip-select edge (R49); otherwise it is unknown (log 8).
The history records it (R56). -/
def busSettled (t : Frame) (a : BusAnswer) (s : State) : State :=
  match a with
  | .ok rx => (s.setPend (if s.framed then some (frameAddr t) else none)).log (.busXfer t (.ok rx))
  | .err c => (s.setPend none).log (.busXfer t (.err c))

/-! ### Completing, and taking an error -/

/-- `Complete(...)` and `PH <- IDLE` in one step (R28). -/
def complete (c : Completion) (s : State) : State :=
  ((s.setPh .idle).setCpl (some c)).log (.complete c)

/-- `raise BusError(c)` (R121, R124): nothing is saved and nothing undone; the operation completes with the
cause unchanged and PH goes to IDLE. There is no return from an error: the block is ready at once (R127). -/
def raiseBusError (c : BusCause) (s : State) : State := complete (.busErr c) s

/-- `raise CsError(c)` (R122, R124). -/
def raiseCsError (c : PinCause) (s : State) : State := complete (.csErr c) s

end Sys2Proof.Machine
end

