-- ==== Sys2Proof/Machine/Ports.lean ====
section
/-! DEFINITION. The block's output signals as functions of its state (10_state.md R26, R27, R28, R30). -/

namespace Sys2Proof.Machine

/-- `req_ready`: 1 exactly when PH = IDLE (R30). -/
def reqReady (s : State) : Bool := s.ph == .idle

/-- `pin_req`: raised in C_SEL, C_DESEL, D_SEL, D_DESEL (R26). -/
def pinReq (s : State) : Bool :=
  match s.ph with
  | .cSel | .cDesel | .dSel | .dDesel => true
  | .idle | .cXfer | .dXfer | .seven => false

/-- `pin_level`: 0 in C_SEL and D_SEL (ACTIVE is low), 1 otherwise (R26). -/
def pinLevel (s : State) : Bit :=
  match s.ph with
  | .cSel | .dSel => 0
  | .idle | .cXfer | .cDesel | .dXfer | .dDesel | .seven => 1

/-- `bus_req`: raised in C_XFER and D_XFER (R27). -/
def busReq (s : State) : Bool :=
  match s.ph with
  | .cXfer | .dXfer => true
  | .idle | .cSel | .cDesel | .dSel | .dDesel | .seven => false

/-- `bus_tx` (R27): the command frame in C_XFER, the nop in D_XFER; no value where nothing is sent. -/
def busTx (s : State) : Option Frame :=
  match s.ph with
  | .cXfer => commandFrame s.cfg s.opr
  | .dXfer => some nopFrame
  | .idle | .cSel | .cDesel | .dSel | .dDesel | .seven => none

/-- `cpl_valid` (R28). -/
def cplValid (s : State) : Bool := s.cpl.isSome

/-- `cpl_status` (R28, R123); no value where nothing completes. -/
def cplStatus (s : State) : Option (BitVec 2) := s.cpl.map Completion.status

/-- `cpl_cause` (R28, R69), where it is valid. -/
def cplCause (s : State) : Option Nat := s.cpl.bind Completion.cause

/-- `cpl_data` (R28, R116), where it is valid. -/
def cplData (s : State) : Option Addr := s.cpl.bind Completion.data

end Sys2Proof.Machine
end

