-- ==== Sys2Proof/Machine/Codec.lean ====
section
/-! DEFINITION. The frames the block forms, as lines of a program (30_encoding.md R75): ENC on an address
(40_parity_codec.md R80), ENC over the Register Map (R88), the nop constant (R62). Each is pure: "it reads no
state, writes no state, issues no primitive" (R87); only the model's own `formed` shows the result (log 14). -/

namespace Sys2Proof.Machine

/-- The line's frame is `f`. -/
def form (f : Frame) (s : State) : Host.Outcome State Fault Refusal := .next (s.setFormed (some f))

/-- ENC (R80): the command frame of address `a`. The word's own bit 15 is no operand: the encoder computes the
parity from the address (log 15). -/
def execEnc (_p : Bit) (a : Addr) (s : State) : Host.Outcome State Fault Refusal := form (enc a) s

/-- ENC ClearErrorFlag (R88). -/
def execEncClearErrorFlag (s : State) : Host.Outcome State Fault Refusal := form (encr s.cfg .clearErrorFlag) s

/-- ENC ProgrammingControl (R88). -/
def execEncProgrammingControl (s : State) : Host.Outcome State Fault Refusal :=
  form (encr s.cfg .programmingControl) s

/-- ENC OtpZeroPosHigh (R88). -/
def execEncOtpZeroPosHigh (s : State) : Host.Outcome State Fault Refusal := form (encr s.cfg .otpZeroPosHigh) s

/-- ENC OtpZeroPosLow (R88). -/
def execEncOtpZeroPosLow (s : State) : Host.Outcome State Fault Refusal := form (encr s.cfg .otpZeroPosLow) s

/-- ENC DiagAgc (R88). -/
def execEncDiagAgc (s : State) : Host.Outcome State Fault Refusal := form (encr s.cfg .diagAgc) s

/-- ENC Magnitude (R88). -/
def execEncMagnitude (s : State) : Host.Outcome State Fault Refusal := form (encr s.cfg .magnitude) s

/-- ENC Angle (R88). -/
def execEncAngle (s : State) : Host.Outcome State Fault Refusal := form (encr s.cfg .angle) s

/-- NOP (R62): the constant nop frame, "not produced by `ENC`". Its transfer in the data phase is R96's
(Engine.lean, `transferData`). -/
def execNop (s : State) : Host.Outcome State Fault Refusal := form nopFrame s

end Sys2Proof.Machine
end

