-- ==== Sys2Proof/Machine/Engine.lean ====
section
/-! DEFINITION. The transaction engine SEQ, one definition per transition rule (41_transaction_engine.md R92 to
R98), and the received response frame as an instruction (30_encoding.md R63). -/

namespace Sys2Proof.Machine

/-- C_SEL (R92): `PinSet(ACTIVE)` has been answered. -/
def selectForCommand (a : PinAnswer) (s : State) : State :=
  match a with
  | .ok    => (pinSettled .active .ok s).setPh .cXfer
  | .err c => raiseCsError c (pinSettled .active (.err c) s)

/-- C_XFER (R93): `BusXfer(t)` of the command frame has been answered; the bits clocked back are discarded. -/
def transferCommand (t : Frame) (a : BusAnswer) (s : State) : State :=
  match a with
  | .ok rx => (busSettled t (.ok rx) s).setPh .cDesel
  | .err c => raiseBusError c (busSettled t (.err c) s)

/-- C_DESEL (R94): `PinSet(INACTIVE)` has been answered. -/
def deselectAfterCommand (a : PinAnswer) (s : State) : State :=
  match a with
  | .ok    => (pinSettled .inactive .ok s).setPh .dSel
  | .err c => raiseCsError c (pinSettled .inactive (.err c) s)

/-- D_SEL (R95): `PinSet(ACTIVE)` has been answered. -/
def selectForData (a : PinAnswer) (s : State) : State :=
  match a with
  | .ok    => (pinSettled .active .ok s).setPh .dXfer
  | .err c => raiseCsError c (pinSettled .active (.err c) s)

/-- D_XFER (R96): `BusXfer(0x0000)` has been answered; the bits clocked back go to RSP. -/
def transferData (a : BusAnswer) (s : State) : State :=
  match a with
  | .ok rx => ((busSettled nopFrame (.ok rx) s).setRsp rx).setPh .dDesel
  | .err c => raiseBusError c (busSettled nopFrame (.err c) s)

/-- D_DESEL, `Ok` (R97): the operation completes with POST of the captured response. -/
def completeRead (r : Reading) (s : State) : State :=
  complete (.ok r) (pinSettled .inactive .ok s)

/-- D_DESEL, `Err` (R97): "the captured `RSP` is not returned". -/
def failFinalDeselect (c : PinCause) (s : State) : State :=
  raiseCsError c (pinSettled .inactive (.err c) s)

/-- An answer on the pin port. In a phase with no pin primitive outstanding it is ignored (R98). -/
def pinAnswered (a : PinAnswer) (s : State) : Host.Outcome State Fault Refusal :=
  match s.ph with
  | .cSel   => .next (selectForCommand a s)
  | .cDesel => .next (deselectAfterCommand a s)
  | .dSel   => .next (selectForData a s)
  | .dDesel =>
    match a with
    | .err c => .next (failFinalDeselect c s)
    | .ok =>
      match post s.cfg s.opr s.rsp with
      | some r => .next (completeRead r s)
      | none   => .fault .operationThree
  | .idle | .cXfer | .dXfer => .next s
  | .seven => .fault .phaseSeven

/-- An answer on the bus port. In a phase with no bus primitive outstanding it is ignored (R98). -/
def busAnswered (a : BusAnswer) (s : State) : Host.Outcome State Fault Refusal :=
  match s.ph with
  | .cXfer =>
    match commandFrame s.cfg s.opr with
    | some t => .next (transferCommand t a s)
    | none   => .fault .operationThree
  | .dXfer => .next (transferData a s)
  | .idle | .cSel | .cDesel | .dSel | .dDesel => .next s
  | .seven => .fault .phaseSeven

/-- RSP (R63): a response frame is received, the `Ok` answer of the bus port. Discarded in C_XFER (R93),
captured in D_XFER (R96), ignored elsewhere (R98); no value of it is illegal (R73). -/
def execRsp (st : BitVec 2) (val : Addr) (s : State) : Host.Outcome State Fault Refusal :=
  busAnswered (.ok (responseFrame st val)) s

end Sys2Proof.Machine
end

