-- ==== Sys2Proof/Machine/Facade.lean ====
section
/-! DEFINITION. The host operations RDDG, RDMAG, RDANG (42_facade_ops.md R111 to R114), the reserved request
(30_encoding.md R71). A request is accepted in one step (R91); the operation it starts is the six answers that
follow (41_transaction_engine.md R92 to R97). -/

namespace Sys2Proof.Machine

/-- Accept (R91): in IDLE, `OPR <- op` and `PH <- C_SEL`. In any other phase the request inputs are ignored
(R30, R149); PH = 7 has no step (R21). -/
def accept (op : OpCode) (s : State) : Host.Outcome State Fault Refusal :=
  match s.ph with
  | .idle => .next (((s.setOpr op).setPh .cSel).log (.accept op))
  | .cSel | .cXfer | .cDesel | .dSel | .dXfer | .dDesel => .next s
  | .seven => .fault .phaseSeven

/-- RDDG, request code 0 (R111). -/
def execRddg (s : State) : Host.Outcome State Fault Refusal := accept 0 s

/-- RDMAG, request code 1 (R112). -/
def execRdmag (s : State) : Host.Outcome State Fault Refusal := accept 1 s

/-- RDANG, request code 2 (R113). -/
def execRdang (s : State) : Host.Outcome State Fault Refusal := accept 2 s

/-- RESERVED3, request code 3 (R71): "A model **refuses** it". No state is named: the request has no meaning in
any. A request presented while the block is busy is never sampled, this one included (R30; Fetch.lean). -/
def execReserved3 (_ : State) : Host.Outcome State Fault Refusal := .refused .reservedRequest

end Sys2Proof.Machine
end

