-- ==== Sys2Proof/Machine/Reset.lean ====
section
/-! DEFINITION. RESET, the document's `construct` (70_reset_and_hazards.md R140, R141). -/

namespace Sys2Proof.Machine

/-- The line after a reset: CS_RESET in IDLE (R34); UNKNOWN in the middle of an operation (R141, U7; log 7).
DESIGN CHOICE (log 27): the spec does not say whether `rst` held high over several clock edges is one reset. Each
edge with `rst` high is a RESET of its own here, so after a reset in the middle of an operation the next such edge,
now in IDLE, turns the UNKNOWN line into CS_RESET. -/
def lineAfterReset (s : State) : Level :=
  match s.ph with
  | .idle => s.cfg.csReset
  | .cSel | .cXfer | .cDesel | .dSel | .dXfer | .dDesel | .seven => .unknown

/-- The sensor's pending request after a reset: "whatever it was" (R140), unknown where a transfer was in
flight (R141; log 8). -/
def pendAfterReset (s : State) : Option Addr :=
  match s.ph with
  | .cXfer | .dXfer => none
  | .idle | .cSel | .cDesel | .dSel | .dDesel | .seven => s.pend

/-- RESET (R140): PH is IDLE, OPR and RSP are unspecified (free values, log 4), nothing is sent and nothing
completes, the history is empty. It cannot fail and may come in any phase (R98). -/
def execReset (s : State) : Host.Outcome State Fault Refusal :=
  .next { s with
    ph     := .idle
    opr    := Config.freeOpr s.fresh
    rsp    := Config.freeRsp s.fresh
    csl    := lineAfterReset s
    framed := false
    pend   := pendAfterReset s
    cpl    := none
    events := []
    fresh  := s.fresh + 1 }

end Sys2Proof.Machine
end

