-- ==== Sys2Proof/Machine/Dispatch.lean ====
section
/-! DEFINITION. One arm per instruction. -/

namespace Sys2Proof.Machine

def exec (i : Instr) (s : State) : Host.Outcome State Fault Refusal :=
  match i with
  -- 42_facade_ops.md, 30_encoding.md R71
  | .rddg => Sys2Proof.Machine.execRddg s
  | .rdmag => Sys2Proof.Machine.execRdmag s
  | .rdang => Sys2Proof.Machine.execRdang s
  | .reserved3 => Sys2Proof.Machine.execReserved3 s
  -- 70_reset_and_hazards.md R140
  | .reset => Sys2Proof.Machine.execReset s
  -- 40_parity_codec.md R80, R88
  | .enc p a => Sys2Proof.Machine.execEnc p a s
  | .encClearErrorFlag => Sys2Proof.Machine.execEncClearErrorFlag s
  | .encProgrammingControl => Sys2Proof.Machine.execEncProgrammingControl s
  | .encOtpZeroPosHigh => Sys2Proof.Machine.execEncOtpZeroPosHigh s
  | .encOtpZeroPosLow => Sys2Proof.Machine.execEncOtpZeroPosLow s
  | .encDiagAgc => Sys2Proof.Machine.execEncDiagAgc s
  | .encMagnitude => Sys2Proof.Machine.execEncMagnitude s
  | .encAngle => Sys2Proof.Machine.execEncAngle s
  -- 30_encoding.md R62, R63
  | .nop => Sys2Proof.Machine.execNop s
  | .rsp st val => Sys2Proof.Machine.execRsp st val s

end Sys2Proof.Machine
end

