-- ==== Sys2Proof/Machine/Fetch.lean ====
section
/-! DEFINITION. Which input of the next entry the block samples, and what it is (41_transaction_engine.md,
section 2: "In each phase exactly one kind of input can fire a transition; every other input is ignored").
There is no instruction fetch in the hardware (20_memory.md R53); this is its counterpart in the model. -/

namespace Sys2Proof.Machine

/-- What an input entry makes the block do. -/
inductive Action where
  /-- An instruction of the table. -/
  | run (i : Instr)
  /-- The pin driver answers. -/
  | pin (a : PinAnswer)
  /-- The bus side answers with an error. -/
  | busError (c : BusCause)
  /-- No input the phase reacts to: the block waits, or stays idle (R98). -/
  | wait
  /-- PH = 7: no step (R21). -/
  | stuck
  /-- The bits are no instruction. -/
  | undecodable (e : DecodeError)
  deriving DecidableEq, Repr

def Action.ofDecode : Except DecodeError Instr → Action
  | .ok i    => .run i
  | .error e => .undecodable e

/-- A request sampled in IDLE (R30). -/
def requestAction (c : Config) : Option OpCode → Action
  | none    => .wait
  | some op => Action.ofDecode (decode c .req [op.setWidth 8])

/-- A pin answer sampled in a phase that waits for one (R26). -/
def pinAction : Option PinAnswer → Action
  | none   => .wait
  | some a => .pin a

/-- A bus answer sampled in a phase that waits for one (R27): the frame clocked back is a response frame
(format RSP, R63). -/
def busAction (c : Config) : Option BusAnswer → Action
  | none           => .wait
  | some (.ok rx)  => Action.ofDecode (decode c .rx (frameBytes rx))
  | some (.err e)  => .busError e

/-- A clock edge in phase `ph`. Reset wins over everything (R126); otherwise the phase decides which port is
sampled (R98). -/
def edgeAction (c : Config) (ph : Phase) (e : Edge) : Action :=
  if e.rst then Action.ofDecode (decode c .rst [1])
  else
    match ph with
    | .idle => requestAction c e.req
    | .cSel | .cDesel | .dSel | .dDesel => pinAction e.pin
    | .cXfer | .dXfer => busAction c e.bus
    | .seven => .stuck

/-- What the next input entry makes the block do. -/
def fetch (s : State) : Input → Action
  | .edge e => edgeAction s.cfg s.ph e
  | .form w => Action.ofDecode (decode s.cfg .tx (frameBytes w))

/-- The state in which an entry is run: the entry is taken off the list; a completion was driven for one
cycle, so a clock edge ends it (R28), while a line that forms a frame takes no time (R87). -/
def taken (inp : Input) (rest : List Input) (s : State) : State :=
  match inp with
  | .edge _ => (s.setCpl none).setInputs rest
  | .form _ => s.setInputs rest

/-- The entry the step takes and what is left after it. When the list is empty nothing more ever comes: every
later edge has no input at all (R98, R134). -/
def nextInput : List Input → Input × List Input
  | []          => (.edge {}, [])
  | inp :: rest => (inp, rest)

/-! ### Placing an instruction for the next step -/

/-- Put an entry in front of the inputs. -/
def State.present (inp : Input) (s : State) : State := s.setInputs (inp :: s.inputs)

/-- A request: the block is made ready for it (req_ready, R30). -/
def State.withRequest (op : OpCode) (s : State) : State :=
  (s.setPh .idle).present (.edge { req := some op })

/-- A response: if no bus primitive is outstanding, the block is put where one is (D_XFER, chip-select
asserted; R96). -/
def State.withResponse (f : Frame) (s : State) : State :=
  match s.ph with
  | .cXfer | .dXfer => s.present (.edge { bus := some (.ok f) })
  | .idle | .cSel | .cDesel | .dSel | .dDesel | .seven =>
    ((s.setPh .dXfer).setCsl .active).present (.edge { bus := some (.ok f) })

/-- A word of the table placed where the step takes its next input. -/
def State.placeWord (nbits w : Nat) (s : State) : State :=
  match tableChannel nbits w with
  | some .req => s.withRequest (BitVec.ofNat 2 w)
  | some .rst => s.present (.edge { rst := w % 2 == 1 })
  | some .tx  => s.present (.form (BitVec.ofNat 16 w))
  | some .rx  => s.withResponse (BitVec.ofNat 16 w)
  | none      => s

end Sys2Proof.Machine
end

