-- ==== Sys2Proof/Machine/Step.lean ====
section
/-! DEFINITION. One step: the next input entry, and what the block does with it. -/

namespace Sys2Proof.Machine

/-- Carry out an action. -/
def act (a : Action) (s : State) : Host.Outcome State Fault Refusal :=
  match a with
  | .run i         => exec i s
  | .pin a         => pinAnswered a s
  | .busError c    => busAnswered (.err c) s
  | .wait          => .next s
  | .stuck         => .fault .phaseSeven
  | .undecodable e => .refused (.undecodable e)

/-- One step (R91 to R98, log 1): the next input entry is taken and acted on. -/
def step (s : State) : Host.Outcome State Fault Refusal :=
  act (fetch s (nextInput s.inputs).1) (taken (nextInput s.inputs).1 (nextInput s.inputs).2 s)

/-- A word of the opcode table placed so that the very next step runs it (log 2). -/
def State.withFetchWord (s : State) (nbits w : Nat) : State := s.placeWord nbits w

end Sys2Proof.Machine
end

