-- ==== Sys2Proof/Machine/Blocking.lean ====
section
/-! DEFINITION. The read transaction as one blocking operation, as the document writes it
(41_transaction_engine.md R90, 42_facade_ops.md R114), over an answer script (30_encoding.md R75). The sequencer
of Engine.lean carries out the same operation one answer at a time. -/

namespace Sys2Proof.Machine

/-- The answers the pin driver and the bus side give to the six primitives of one operation, in the order the
primitives are issued (20_memory.md R47). Answers after the first `Err` are never asked for. -/
structure Script where
  cSel   : PinAnswer
  cXfer  : BusAnswer
  cDesel : PinAnswer
  dSel   : PinAnswer
  dXfer  : BusAnswer
  dDesel : PinAnswer
  deriving DecidableEq, Repr

/-- The two error kinds (60_exceptions.md R120). -/
inductive OpError where
  | bus (c : BusCause)
  | cs (c : PinCause)
  deriving DecidableEq, Repr

/-- Go on only if the pin primitive answered `Ok` (R90). -/
def afterPin {α : Type} (a : PinAnswer) (k : Except OpError α) : Except OpError α :=
  match a with
  | .ok    => k
  | .err c => .error (.cs c)

/-- Go on with the received frame only if the bus primitive answered `Ok` (R90). -/
def afterBus {α : Type} (a : BusAnswer) (k : Frame → Except OpError α) : Except OpError α :=
  match a with
  | .ok rx => k rx
  | .err c => .error (.bus c)

/-- `ENGINE_READ` (R90): command phase, its received bits discarded; then data phase, its received bits
returned. The first `Err` ends it. -/
def engineRead (sc : Script) : Except OpError Frame :=
  afterPin sc.cSel (afterBus sc.cXfer fun _ => afterPin sc.cDesel
    (afterPin sc.dSel (afterBus sc.dXfer fun v => afterPin sc.dDesel (.ok v))))

/-- The completion of an operation (R114): the engine's error unchanged, or POST of the response. -/
def operation (c : Config) (op : OpCode) (sc : Script) : Option Completion :=
  match engineRead sc with
  | .error (.bus e) => some (.busErr e)
  | .error (.cs e)  => some (.csErr e)
  | .ok v           => (post c op v).map Completion.ok

/-- The pin primitive issued, and the rest if it answered `Ok` (R47). -/
def issuePin (l : Level) (a : PinAnswer) (rest : List Event) : List Event :=
  match a with
  | .ok    => .pinSet l .ok :: rest
  | .err c => [.pinSet l (.err c)]

/-- The bus primitive issued, and the rest if it answered `Ok` (R47). -/
def issueBus (t : Frame) (a : BusAnswer) (rest : List Event) : List Event :=
  match a with
  | .ok rx => .busXfer t (.ok rx) :: rest
  | .err c => [.busXfer t (.err c)]

/-- The primitives an operation with command frame `t` issues, each with its answer, in order (R47, R56). -/
def issued (t : Frame) (sc : Script) : List Event :=
  issuePin .active sc.cSel (issueBus t sc.cXfer (issuePin .inactive sc.cDesel
    (issuePin .active sc.dSel (issueBus nopFrame sc.dXfer (issuePin .inactive sc.dDesel [])))))

/-- The block of the history one finished operation leaves (R56): accept, primitives, one completion. -/
def operationBlock (c : Config) (op : OpCode) (sc : Script) : List Event :=
  .accept op :: (issued ((commandFrame c op).getD nopFrame) sc
    ++ ((operation c op sc).map Event.complete).toList)

/-- The block of the history of an operation in progress, by phase (R56): the primitives answered so far, all
`Ok`; `t` is the command frame, `rxc` and `rxd` the bits clocked back in the two transfers. -/
def openBlock (ph : Phase) (op : OpCode) (t rxc rxd : Frame) : List Event :=
  match ph with
  | .idle | .seven => []
  | .cSel   => [.accept op]
  | .cXfer  => [.accept op, .pinSet .active .ok]
  | .cDesel => [.accept op, .pinSet .active .ok, .busXfer t (.ok rxc)]
  | .dSel   => [.accept op, .pinSet .active .ok, .busXfer t (.ok rxc), .pinSet .inactive .ok]
  | .dXfer  => [.accept op, .pinSet .active .ok, .busXfer t (.ok rxc), .pinSet .inactive .ok,
                .pinSet .active .ok]
  | .dDesel => [.accept op, .pinSet .active .ok, .busXfer t (.ok rxc), .pinSet .inactive .ok,
                .pinSet .active .ok, .busXfer nopFrame (.ok rxd)]

end Sys2Proof.Machine
end

