-- ==== Sys2Proof/Safety.lean ====
section
/-! DEFINITION. The terms claims are stated in: what a host program owes, the invariants of a run, what the
history shows, and the named assumption about the sensor. -/

namespace Sys2Proof.Machine

/-! ### Host obligations -/

/-- An input entry a host may present: no request code 3 (30_encoding.md R71), and lines that form frames name
well-formed instructions (R72). -/
def hostInputOk (c : Config) : Input → Bool
  | .edge e => e.req != some 3
  | .form w =>
    match decode c .tx (frameBytes w) with
    | .ok i => wellFormed c i
    | .error _ => false

/-! ### Invariants of a run -/

/-- The chip-select line in each phase (10_state.md R25, R92 to R96): asserted while a transfer is outstanding
and until it is deasserted, deasserted between the phases; nothing is claimed in IDLE and C_SEL. -/
def lineFits : Phase → Level → Bool
  | .idle, _ | .cSel, _ | .seven, _ => true
  | .cXfer, l | .cDesel, l | .dXfer, l | .dDesel, l => l == .active
  | .dSel, l => l == .inactive

/-- The sensor's pending request in each phase (20_memory.md R49): unknown or the register of the operation
after the command phase's transfer, the nop's after the data phase's. -/
def pendFits (ph : Phase) (cmd pend : Option Addr) : Bool :=
  match ph with
  | .idle | .cSel | .cXfer | .seven => true
  | .cDesel | .dSel | .dXfer => pend == none || pend == cmd
  | .dDesel => pend == some 0

/-- The data phase began with a fresh edge: the line was INACTIVE when it was asserted (R52). -/
def framedFits (ph : Phase) (framed : Bool) : Bool :=
  match ph with
  | .dXfer | .dDesel => framed
  | .idle | .cSel | .cXfer | .cDesel | .dSel | .seven => true

/-- What holds of every state a run reaches: PH is a code some rule writes (R21), the operation in progress is
one of the three (R22), the line, the framing and the sensor's pending request are those of the phase. -/
abbrev Coherent (s : State) : Prop :=
  s.ph ≠ .seven ∧ (s.ph ≠ .idle → s.opr ≠ 3) ∧ lineFits s.ph s.csl = true ∧
    framedFits s.ph s.framed = true ∧ pendFits s.ph ((regOf s.opr).map s.cfg.addr) s.pend = true

/-- The frames the block ever puts on the bus (30_encoding.md R72). -/
def legalTx (c : Config) (t : Frame) : Bool :=
  t == encr c .diagAgc || t == encr c .magnitude || t == encr c .angle || t == nopFrame

/-- Does this event send only a legal frame? -/
def eventTxLegal (c : Config) : Event → Bool
  | .busXfer t _ => legalTx c t
  | .accept _ | .pinSet _ _ | .complete _ => true

/-- Every transfer of the history sent one of the four frames (R72). -/
abbrev BusSafe (s : State) : Prop := ∀ e ∈ s.events, eventTxLegal s.cfg e = true

/-- The history is the blocks of finished operations, then the block of the one in progress (R56). -/
def HistoryOfBlocks (s : State) : Prop :=
  ∃ (done : List (OpCode × Script)) (rxc : Frame), (∀ d ∈ done, d.1 ≠ 3) ∧
    s.history = done.flatMap (fun d => operationBlock s.cfg d.1 d.2)
      ++ openBlock s.ph s.opr ((commandFrame s.cfg s.opr).getD nopFrame) rxc s.rsp

/-! ### What the history and a completion show -/

def Event.isAccept : Event → Bool
  | .accept _ => true
  | .pinSet _ _ | .busXfer _ _ | .complete _ => false

def Event.isPinSet : Event → Bool
  | .pinSet _ _ => true
  | .accept _ | .busXfer _ _ | .complete _ => false

def Event.isBusXfer : Event → Bool
  | .busXfer _ _ => true
  | .accept _ | .pinSet _ _ | .complete _ => false

def Event.isComplete : Event → Bool
  | .complete _ => true
  | .accept _ | .pinSet _ _ | .busXfer _ _ => false

/-- The number of operations in progress: none in IDLE, else one (R48). -/
def pendingOps (ph : Phase) : Nat := if ph = .idle then 0 else 1

/-- The chip-select line at completion, by outcome (R100). -/
def lineAtCompletion : Completion → Level
  | .ok _     => .inactive
  | .busErr _ => .active
  | .csErr _  => .unknown

/-- Two outcomes that differ at most in one record of the history (R103): the same stop, or states equal in every
field but the history, whose histories are equal (after a reset both begin anew) or hold `e` and `e'` on top of the
same earlier events `old`, with the same later events on top of them. -/
def AgreeButRecord (e e' : Event) (old : List Event) :
    Host.Outcome State Fault Refusal → Host.Outcome State Fault Refusal → Prop
  | .next t, .next t' => t.setEvents [] = t'.setEvents [] ∧
      (t.events = t'.events ∨ ∃ later, t.events = later ++ e :: old ∧ t'.events = later ++ e' :: old)
  | .fault r, .fault r'     => r = r'
  | .refused r, .refused r' => r = r'
  | .next _, .fault _ | .next _, .refused _ | .fault _, .next _ => False
  | .fault _, .refused _ | .refused _, .next _ | .refused _, .fault _ => False

/-! ### The named assumption about the sensor -/

/-- The pipelined-read property (20_memory.md R49, decision D24): the content bits of an `Ok` answer are those of
the register asked for in the previous framed transfer. An assumption about the environment: the model does not
build it in. -/
def PipelinedAnswer (content : Addr → Addr) (pend : Option Addr) (rx : Frame) : Prop :=
  ∀ a, pend = some a → respVal rx = content a

/-! ### Edges -/

/-- An edge that answers the pin primitive and raises nothing else the block could react to. -/
abbrev Edge.answersPin (e : Edge) (a : PinAnswer) : Prop := e.rst = false ∧ e.req = none ∧ e.pin = some a

/-- An edge that answers the bus primitive and raises nothing else the block could react to. -/
abbrev Edge.answersBus (e : Edge) (a : BusAnswer) : Prop := e.rst = false ∧ e.req = none ∧ e.bus = some a

/-- The seven edges that carry out one operation: the request and the six answers of the script (R104). -/
structure OperationEdges where
  request : Edge
  cSel    : Edge
  cXfer   : Edge
  cDesel  : Edge
  dSel    : Edge
  dXfer   : Edge
  dDesel  : Edge
  deriving DecidableEq, Repr

def OperationEdges.inputs (es : OperationEdges) : List Input :=
  [.edge es.request, .edge es.cSel, .edge es.cXfer, .edge es.cDesel, .edge es.dSel, .edge es.dXfer, .edge es.dDesel]

/-- The edges present request `op` and then the answers of `sc`. -/
abbrev OperationEdges.carry (es : OperationEdges) (op : OpCode) (sc : Script) : Prop :=
  es.request.rst = false ∧ es.request.req = some op ∧ es.cSel.answersPin sc.cSel ∧
    es.cXfer.answersBus sc.cXfer ∧ es.cDesel.answersPin sc.cDesel ∧ es.dSel.answersPin sc.dSel ∧
    es.dXfer.answersBus sc.dXfer ∧ es.dDesel.answersPin sc.dDesel

/-- What no transition but reset or an acceptance changes: the operation latch, the parameters, the model's own
fields. -/
abbrev Untouched (s t : State) : Prop :=
  t.opr = s.opr ∧ t.cfg = s.cfg ∧ t.formed = s.formed ∧ t.fresh = s.fresh

end Sys2Proof.Machine
end

