-- ==== Sys2Proof/Certificates/Slice0/Obligations.lean ====
section
/-! DEFINITION. The statements about the model, from the numbered rules of spec/. Nothing is proved here. -/

open Sys2Proof Sys2Proof.Machine

/-! ## The parity codec (40_parity_codec.md) -/

/-- R83: the encoded frame has an even number of set bits, for every address. -/
def Obligations.CommandFramesHaveEvenParity : Prop :=
  ∀ a : Addr, popcount (enc a) % 2 = 0

/-- R81: the four-level tree computes `xorred`, which is `popcount mod 2`, and the shift form gives the same bit. -/
def Obligations.FoldIsPopcountParity : Prop :=
  ∀ x : Frame, fold x = xorred x ∧ (fold x).toNat = popcount x % 2 ∧ shiftFold x = fold x

/-- R84, R85: the fields of an encoded frame; the parity bit is the complement of the XOR of the address bits. -/
def Obligations.CommandFrameFields : Prop :=
  ∀ a : Addr, frameAddr (enc a) = a ∧ frameRead (enc a) = true ∧
    frameParity (enc a) = 1 ^^^ xorred a ∧ 0x4000 ≤ (enc a).toNat ∧ enc a ≠ nopFrame

/-- R85: the values of ENC are exactly the words with bit 14 set and an even number of set bits, each of one
address. -/
def Obligations.CommandFramesAreTheEvenReadWords : Prop :=
  (∀ f : Frame, (∃ a, enc a = f) ↔ (frameRead f = true ∧ popcount f % 2 = 0)) ∧
  (∀ a b : Addr, enc a = enc b → a = b)

/-- R86: flipping one bit of an encoded frame makes the number of set bits odd, flipping two different bits
leaves it even. -/
def Obligations.SingleBitErrorIsDetectable : Prop :=
  ∀ (a : Addr) (i : Nat), i < 16 →
    popcount (enc a ^^^ BitVec.twoPow 16 i) % 2 = 1 ∧
    ∀ j, j < 16 → j ≠ i → popcount (enc a ^^^ BitVec.twoPow 16 i ^^^ BitVec.twoPow 16 j) % 2 = 0

/-- R70, R88 under the defaults of R6 (six addresses general knowledge, log 11): the seven frames. -/
def Obligations.FramesOfTheRegisterMap : Prop :=
  Register.all.map (encr Config.standard) = [0x4001#16, 0xC003#16, 0x4016#16, 0xC017#16, 0x7FFD#16, 0x7FFE#16, 0xFFFF#16]
    ∧ Config.standard.wf = true

/-- R80, R87, R88: the lines that form a frame complete in every state; they change nothing but the model's own
field `formed` (log 14), which shows the frame. That the word's own bit 15 does not matter is log 15, the model's
choice. -/
def Obligations.EncodeLinesFormTheirFrame : Prop :=
  ∀ s : State,
    (∀ p a, exec (.enc p a) s = .next { s with formed := some (enc a) }) ∧
    exec .encClearErrorFlag s = .next { s with formed := some (enc s.cfg.addrClearErrorFlag) } ∧
    exec .encProgrammingControl s = .next { s with formed := some (enc s.cfg.addrProgrammingControl) } ∧
    exec .encOtpZeroPosHigh s = .next { s with formed := some (enc s.cfg.addrOtpZeroPosHigh) } ∧
    exec .encOtpZeroPosLow s = .next { s with formed := some (enc s.cfg.addrOtpZeroPosLow) } ∧
    exec .encDiagAgc s = .next { s with formed := some (enc s.cfg.addrDiagAgc) } ∧
    exec .encMagnitude s = .next { s with formed := some (enc s.cfg.addrMagnitude) } ∧
    exec .encAngle s = .next { s with formed := some (enc s.cfg.addrAngle) }

/-- R62: the nop line completes in every state, forms the constant 0x0000 and changes nothing else (log 14); in
D_XFER that constant is what the bus port sends (R27), and in no state is it the command frame. -/
def Obligations.NopLineFormsZero : Prop :=
  ∀ s : State, exec .nop s = .next { s with formed := some 0x0000#16 } ∧
    (s.ph = .dXfer → busTx s = some 0x0000#16) ∧ commandFrame s.cfg s.opr ≠ some 0x0000#16

/-! ## Response fields and post-processing -/

/-- R66: the fields of a response frame and their bounds; POST's computation of them from the literals of the
configuration record, as the document writes those (R156), gives the same. -/
def Obligations.ResponseFieldExtraction : Prop :=
  ∀ v : Frame,
    (respVal v).setWidth 16 = v &&& 0x3FFF#16 ∧ respVal v = v.extractLsb' 0 14 ∧
    (respDiag v).setWidth 16 = (v >>> 8) &&& 0xF#16 ∧ respDiag v = v.extractLsb' 8 4 ∧
    (respGain v).setWidth 16 = v &&& 0xFF#16 ∧ respGain v = v.extractLsb' 0 8 ∧
    maskedValue .source v = respVal v ∧ lowDiag .source (v >>> 8) = respDiag v ∧
    ((respVal v).setWidth 16).toNat < 0x4000 ∧ ((respDiag v).setWidth 16).toNat < 0x10 ∧
    ((respGain v).setWidth 16).toNat < 0x100

/-- R110: POST for the three operations, with the layout of the §8 example and the document's literals (R156). With
the other layout, which DG_SPLIT selects (R111, conflict C1; log 12), RDDG gives the low nibble and the high byte.
Whatever the literals, in the default layout it ignores bits 15:14 for every operation and bits 13:12 for RDDG. -/
def Obligations.PostProcessing : Prop :=
  (∀ c v, c.lits = .source → c.dgSplit = .scenario → post c 0 v = some (.diagGain (respDiag v) (respGain v))) ∧
  (∀ c v, c.lits = .source → c.dgSplit = .prose →
    post c 0 v = some (.diagGain (v.extractLsb' 0 4) (v.extractLsb' 8 8))) ∧
  (∀ c v, c.lits = .source → post c 1 v = some (.value (respVal v)) ∧ post c 2 v = some (.value (respVal v))) ∧
  (∀ c op v w, c.dgSplit = .scenario → v.extractLsb' 0 14 = w.extractLsb' 0 14 → post c op v = post c op w) ∧
  (∀ c v w, c.dgSplit = .scenario → v.extractLsb' 0 12 = w.extractLsb' 0 12 → post c 0 v = post c 0 w)

/-- R116 (the spec's decision D12): the packed result is the response masked by MASK(op). -/
def Obligations.CompletionDataIsMaskedResponse : Prop :=
  (∀ (c : Config) (op : OpCode) (v : Frame), op ≠ 3 → c.dgSplit = .scenario → c.lits = .source →
    ∃ r, post c op v = some r ∧ r.pack.setWidth 16 = v &&& dataMask c.lits op) ∧
  dataMask .source 0 = 0x0FFF#16 ∧ dataMask .source 1 = 0x3FFF#16 ∧ dataMask .source 2 = 0x3FFF#16

/-- R156 with the document's scenarios (95_test_vectors.md S6, S7, S8): the literals the configuration record keeps
agree with each other and with its addresses; POST gives the scenarios' values for their bytes, and Angle's frame
comes from its base. -/
def Obligations.SourceScenarios : Prop :=
  let c := Config.standard
  let read := fun op => c.lits.scenarioBytes.map fun b => (post c op (frameOfBytes b.1 b.2))
  c.literalsAgree = true ∧
  (read 1).take 3 = [some (.value 0x3FFF#14), some (.value 0x3FFF#14), some (.value 0#14)] ∧
  (read 0).drop 3 = [some (.diagGain 0x2#4 0x34#8)] ∧
  commandBase c.addrAngle = c.lits.angleBase ∧ popcount c.lits.angleBase = 15 ∧ enc c.addrAngle = 0xFFFF#16

/-! ## Requests, the reserved code, reset -/

/-- R91 (with the spec's decision D14), R111, R112, R113: in IDLE a request is accepted, OPR takes its code and
PH goes to C_SEL; nothing else changes but the history. -/
def Obligations.RequestIsAcceptedWhenIdle : Prop :=
  ∀ s : State, s.ph = .idle →
    exec .rddg s = .next { s with opr := 0, ph := .cSel, events := .accept 0 :: s.events } ∧
    exec .rdmag s = .next { s with opr := 1, ph := .cSel, events := .accept 1 :: s.events } ∧
    exec .rdang s = .next { s with opr := 2, ph := .cSel, events := .accept 2 :: s.events }

/-- R30, R149 (the spec's decision D14): a request presented while an operation is in progress has no effect,
neither as an instruction nor as the input of a step. -/
def Obligations.RequestIsIgnoredWhenBusy : Prop :=
  (∀ (s : State) (i : Instr), s.ph ≠ .idle → s.ph ≠ .seven → i = .rddg ∨ i = .rdmag ∨ i = .rdang →
    exec i s = .next s) ∧
  (∀ (s : State) (e : Edge) (rest : List Input) (r : Option OpCode), s.ph ≠ .idle →
    step { s with inputs := .edge { e with req := r } :: rest } = step { s with inputs := .edge e :: rest })

/-- R71 (the spec's decision D13): request code 3 is refused, in every state. -/
def Obligations.ReservedRequestIsRefused : Prop :=
  ∀ s : State, exec .reserved3 s = .refused .reservedRequest

/-- R140, R34 with log 4, log 5, log 8: RESET in IDLE. OPR and RSP take some value; the line is taken to be
CS_RESET; no completion, empty history; the inputs, the parameters and the sensor's pending request stay. -/
def Obligations.ResetFromIdle : Prop :=
  ∀ s : State, s.ph = .idle → ∃ o v, exec .reset s =
    .next { s with ph := .idle, opr := o, rsp := v, csl := s.cfg.csReset, framed := false, cpl := none,
                   events := [], fresh := s.fresh + 1 }

/-- R141 (the spec's decision D3) with log 7, log 8: RESET in the middle of an operation forces IDLE, emits no
completion and leaves the line UNKNOWN; with a transfer in flight the sensor's pending request is unknown. -/
def Obligations.ResetDuringOperation : Prop :=
  ∀ s : State, s.ph ≠ .idle → ∃ o v p, exec .reset s =
    .next { s with ph := .idle, opr := o, rsp := v, csl := .unknown, framed := false, pend := p, cpl := none,
                   events := [], fresh := s.fresh + 1 } ∧
    ((s.ph = .cXfer ∨ s.ph = .dXfer) → p = none) ∧ (s.ph ≠ .cXfer → s.ph ≠ .dXfer → p = s.pend)

/-- R34, R140: the machine right after reset and its outputs. That the line is INACTIVE is the spec's decision
D8; OPR, RSP and PEND are named values of the model (log 3, log 8) and are not claimed. -/
def Obligations.StateAfterReset : Prop :=
  State.reset.ph = .idle ∧ State.reset.csl = .inactive ∧ State.reset.history = [] ∧
    reqReady State.reset = true ∧ cplValid State.reset = false ∧ pinReq State.reset = false ∧
    pinLevel State.reset = 1 ∧ busReq State.reset = false

/-! ## The received response frame -/

/-- R93, `Ok`: in C_XFER a received frame is discarded and PH goes to C_DESEL; RSP and the line are as before.
The sensor's pending request follows R49 with log 8. -/
def Obligations.ResponseInCommandPhaseIsDiscarded : Prop :=
  ∀ (s : State) (st : BitVec 2) (val : Addr) (r : Register), s.ph = .cXfer → regOf s.opr = some r →
    exec (.rsp st val) s =
      .next { s with ph := .cDesel, pend := if s.framed then some (s.cfg.addr r) else none,
                     events := .busXfer (enc (s.cfg.addr r)) (.ok (responseFrame st val)) :: s.events }

/-- R96, `Ok`: in D_XFER the received frame goes to RSP and PH goes to D_DESEL; the line is as before. The
sensor's pending request follows R49 with log 8. -/
def Obligations.ResponseInDataPhaseIsCaptured : Prop :=
  ∀ (s : State) (st : BitVec 2) (val : Addr), s.ph = .dXfer →
    exec (.rsp st val) s =
      .next { s with ph := .dDesel, rsp := responseFrame st val,
                     pend := if s.framed then some 0 else none,
                     events := .busXfer 0x0000#16 (.ok (responseFrame st val)) :: s.events }

/-- R98 (the spec's decision D20): a received frame where no bus primitive is outstanding is ignored. -/
def Obligations.ResponseIsIgnoredElsewhere : Prop :=
  ∀ (s : State) (st : BitVec 2) (val : Addr),
    s.ph = .idle ∨ s.ph = .cSel ∨ s.ph = .cDesel ∨ s.ph = .dSel ∨ s.ph = .dDesel →
    exec (.rsp st val) s = .next s

/-! ## The transitions of the sequencer, at a clock edge without reset (41_transaction_engine.md) -/

/-- R92: C_SEL, whatever level the line is at. That a failed pin operation leaves the line UNKNOWN is the spec's
decision D9 (R25, log 6), and what becomes of the sensor's pending request is log 8, the model's choice. So is the
model's own field `framed`: only a line that was INACTIVE counts as freshly asserted, not one that was ACTIVE or
UNKNOWN (R128, U13). -/
def Obligations.AssertForCommandPhase : Prop :=
  ∀ (s : State) (e : Edge) (rest : List Input), s.ph = .cSel → s.inputs = .edge e :: rest → e.rst = false →
    pinReq s = true ∧ pinLevel s = 0 ∧
    (e.pin = some .ok → ∃ t, step s = .next t ∧ t.ph = .cXfer ∧ t.csl = .active ∧
      t.framed = (s.csl == .inactive) ∧ t.rsp = s.rsp ∧ t.pend = s.pend ∧ t.cpl = none ∧
      t.events = .pinSet .active .ok :: s.events ∧ t.inputs = rest ∧ Untouched s t) ∧
    (∀ c, e.pin = some (.err c) → ∃ t, step s = .next t ∧ t.ph = .idle ∧ t.csl = .unknown ∧
      t.framed = false ∧ t.rsp = s.rsp ∧ t.pend = none ∧ t.cpl = some (.csErr c) ∧ busReq t = false ∧
      t.events = .complete (.csErr c) :: .pinSet .active (.err c) :: s.events ∧ t.inputs = rest ∧ Untouched s t)

/-- R93: C_XFER. The frame sent is that of the operation's register; the bits clocked back are discarded; after
an error no pin primitive is issued and the data phase is never started. -/
def Obligations.TransferCommandFrame : Prop :=
  (regOf 0 = some .diagAgc ∧ regOf 1 = some .magnitude ∧ regOf 2 = some .angle ∧
    encr Config.standard .angle = 0xFFFF#16) ∧
  ∀ (s : State) (e : Edge) (rest : List Input) (r : Register), s.ph = .cXfer → s.inputs = .edge e :: rest →
    e.rst = false → regOf s.opr = some r →
    busReq s = true ∧ busTx s = some (enc (s.cfg.addr r)) ∧
    (∀ rx, e.bus = some (.ok rx) → ∃ t, step s = .next t ∧ t.ph = .cDesel ∧ t.rsp = s.rsp ∧ t.csl = s.csl ∧
      t.cpl = none ∧ t.events = .busXfer (enc (s.cfg.addr r)) (.ok rx) :: s.events ∧ t.inputs = rest ∧
      Untouched s t) ∧
    (∀ c, e.bus = some (.err c) → ∃ t, step s = .next t ∧ t.ph = .idle ∧ t.rsp = s.rsp ∧ t.csl = s.csl ∧
      (s.csl = .active → t.csl = .active) ∧ t.cpl = some (.busErr c) ∧ pinReq t = false ∧ busReq t = false ∧
      t.events = .complete (.busErr c) :: .busXfer (enc (s.cfg.addr r)) (.err c) :: s.events ∧
      t.inputs = rest ∧ Untouched s t)

/-- R94: C_DESEL. The line UNKNOWN on `Err` is the spec's decision D9 (R25, log 6), and what becomes of the
sensor's pending request and of the model's own field `framed` is log 8, the model's choice. -/
def Obligations.DeassertAfterCommandPhase : Prop :=
  ∀ (s : State) (e : Edge) (rest : List Input), s.ph = .cDesel → s.inputs = .edge e :: rest → e.rst = false →
    pinReq s = true ∧ pinLevel s = 1 ∧
    (e.pin = some .ok → ∃ t, step s = .next t ∧ t.ph = .dSel ∧ t.csl = .inactive ∧
      t.framed = false ∧ t.rsp = s.rsp ∧ t.pend = s.pend ∧ t.cpl = none ∧
      t.events = .pinSet .inactive .ok :: s.events ∧ t.inputs = rest ∧ Untouched s t) ∧
    (∀ c, e.pin = some (.err c) → ∃ t, step s = .next t ∧ t.ph = .idle ∧ t.csl = .unknown ∧
      t.framed = false ∧ t.rsp = s.rsp ∧ t.pend = none ∧ t.cpl = some (.csErr c) ∧ busReq t = false ∧
      t.events = .complete (.csErr c) :: .pinSet .inactive (.err c) :: s.events ∧ t.inputs = rest ∧
      Untouched s t)

/-- R95: D_SEL. The line UNKNOWN on `Err` is the spec's decision D9 (R25, log 6), and what becomes of the sensor's
pending request, and of the model's own field `framed` (set only if the line was INACTIVE), is log 8, the model's
choice. -/
def Obligations.AssertForDataPhase : Prop :=
  ∀ (s : State) (e : Edge) (rest : List Input), s.ph = .dSel → s.inputs = .edge e :: rest → e.rst = false →
    pinReq s = true ∧ pinLevel s = 0 ∧
    (e.pin = some .ok → ∃ t, step s = .next t ∧ t.ph = .dXfer ∧ t.csl = .active ∧
      t.framed = (s.csl == .inactive) ∧ t.rsp = s.rsp ∧ t.pend = s.pend ∧ t.cpl = none ∧
      t.events = .pinSet .active .ok :: s.events ∧ t.inputs = rest ∧ Untouched s t) ∧
    (∀ c, e.pin = some (.err c) → ∃ t, step s = .next t ∧ t.ph = .idle ∧ t.csl = .unknown ∧
      t.framed = false ∧ t.rsp = s.rsp ∧ t.pend = none ∧ t.cpl = some (.csErr c) ∧ busReq t = false ∧
      t.events = .complete (.csErr c) :: .pinSet .active (.err c) :: s.events ∧ t.inputs = rest ∧ Untouched s t)

/-- R96: D_XFER sends 0x0000 and captures the bits clocked back; after an error RSP is not written and the line
stays where it was. -/
def Obligations.TransferNopAndCapture : Prop :=
  ∀ (s : State) (e : Edge) (rest : List Input), s.ph = .dXfer → s.inputs = .edge e :: rest → e.rst = false →
    busReq s = true ∧ busTx s = some 0x0000#16 ∧
    (∀ rx, e.bus = some (.ok rx) → ∃ t, step s = .next t ∧ t.ph = .dDesel ∧ t.rsp = rx ∧ t.csl = s.csl ∧
      t.cpl = none ∧ t.events = .busXfer 0x0000#16 (.ok rx) :: s.events ∧ t.inputs = rest ∧ Untouched s t) ∧
    (∀ c, e.bus = some (.err c) → ∃ t, step s = .next t ∧ t.ph = .idle ∧ t.rsp = s.rsp ∧ t.csl = s.csl ∧
      (s.csl = .active → t.csl = .active) ∧ t.cpl = some (.busErr c) ∧
      t.events = .complete (.busErr c) :: .busXfer 0x0000#16 (.err c) :: s.events ∧
      t.inputs = rest ∧ Untouched s t)

/-- R97: D_DESEL completes with POST of the captured response, or with a chip-select error that drops it. The line
UNKNOWN on `Err` is the spec's decision D9 (R25, log 6), and what becomes of the sensor's pending request and of
the model's own field `framed` is log 8, the model's choice. -/
def Obligations.DeassertAndComplete : Prop :=
  ∀ (s : State) (e : Edge) (rest : List Input), s.ph = .dDesel → s.inputs = .edge e :: rest → e.rst = false →
    pinReq s = true ∧ pinLevel s = 1 ∧
    (∀ r, e.pin = some .ok → post s.cfg s.opr s.rsp = some r → ∃ t, step s = .next t ∧ t.ph = .idle ∧
      t.csl = .inactive ∧ t.framed = false ∧ t.rsp = s.rsp ∧ t.pend = s.pend ∧ t.cpl = some (.ok r) ∧
      t.events = .complete (.ok r) :: .pinSet .inactive .ok :: s.events ∧ t.inputs = rest ∧ Untouched s t) ∧
    (∀ c, e.pin = some (.err c) → ∃ t, step s = .next t ∧ t.ph = .idle ∧ t.csl = .unknown ∧
      t.framed = false ∧ t.rsp = s.rsp ∧ t.pend = none ∧ t.cpl = some (.csErr c) ∧
      t.events = .complete (.csErr c) :: .pinSet .inactive (.err c) :: s.events ∧ t.inputs = rest ∧
      Untouched s t)

/-- R98 (the spec's decision D20), R134: an edge without reset and without an input for the phase changes
nothing; answers on the port with no primitive outstanding are ignored. (The completion port was driven for one
cycle, R28.) The same where no input is left: that nothing ever comes again is log 1, the model's choice. -/
def Obligations.WaitsWithoutAnswer : Prop :=
  (∀ (s : State) (e : Edge) (rest : List Input), s.inputs = .edge e :: rest → e.rst = false → s.ph ≠ .seven →
    (s.ph = .idle → e.req = none) → (pinReq s = true → e.pin = none) → (busReq s = true → e.bus = none) →
    step s = .next { s with cpl := none, inputs := rest }) ∧
  (∀ s : State, s.inputs = [] → s.ph ≠ .seven → step s = .next { s with cpl := none })

/-- R134: with no reset and no answer ever, an operation in progress hangs: however many steps are run, the
phase, the registers, the line, the model's own `framed` (log 8) and the history stay, and nothing completes. -/
def Obligations.UnansweredOperationHangs : Prop :=
  ∀ (k : Nat) (s : State), s.ph ≠ .idle → s.ph ≠ .seven → s.cpl = none →
    (∀ inp ∈ s.inputs, ∃ e : Edge, inp = .edge e ∧ e.rst = false ∧ e.pin = none ∧ e.bus = none) →
    ∃ t, Host.Core.run Sys2Proof.core k s = .next t ∧ t.ph = s.ph ∧ t.rsp = s.rsp ∧ t.csl = s.csl ∧
      t.framed = s.framed ∧
      t.pend = s.pend ∧ t.cpl = none ∧ t.events = s.events ∧ Untouched s t

/-- R126 (derived there), R98: reset wins over every other input, in any phase. That EVERY edge with reset raised is
a RESET of its own, also while reset is held over several edges, is log 27, the model's choice (DESIGN CHOICE). -/
def Obligations.ResetWinsOverOtherInputs : Prop :=
  ∀ (s : State) (e : Edge) (rest : List Input), s.inputs = .edge e :: rest → e.rst = true →
    step s = exec .reset { s with cpl := none, inputs := rest } ∧ ∃ t, step s = .next t ∧ t.ph = .idle

/-- R126 (derived there): a request presented at the edge of a completion is not accepted at that edge. -/
def Obligations.RequestAtCompletionIsNotAccepted : Prop :=
  ∀ (s : State) (e : Edge) (rest : List Input) (op : OpCode), s.ph = .dDesel → s.opr ≠ 3 →
    s.inputs = .edge e :: rest → e.rst = false → e.pin = some .ok → e.req = some op →
    ∃ t c, step s = .next t ∧ t.ph = .idle ∧ t.opr = s.opr ∧ t.cpl = some (.ok c)

/-- R21, R98, R30 with log 18: the codes no rule writes have no step. PH = 7 stops at every edge without reset, where
no input is left (log 1), and on a request or an answer; OPR = 3 stops where the command frame or POST is needed. -/
def Obligations.UnreachableCodesStop : Prop :=
  (∀ (s : State) (e : Edge) (rest : List Input), s.ph = .seven → s.inputs = .edge e :: rest → e.rst = false →
    step s = .fault .phaseSeven) ∧
  (∀ s : State, s.ph = .seven → s.inputs = [] → step s = .fault .phaseSeven) ∧
  (∀ (s : State) (st : BitVec 2) (val : Addr), s.ph = .seven →
    exec .rddg s = .fault .phaseSeven ∧ exec .rdmag s = .fault .phaseSeven ∧ exec .rdang s = .fault .phaseSeven ∧
    exec (.rsp st val) s = .fault .phaseSeven) ∧
  (∀ (s : State) (e : Edge) (rest : List Input), s.opr = 3 → s.inputs = .edge e :: rest → e.rst = false →
    (s.ph = .cXfer → e.bus.isSome = true → step s = .fault .operationThree) ∧
    (s.ph = .dDesel → e.pin = some .ok → step s = .fault .operationThree))

/-- R53, log 1: a step runs the instruction its input decodes to, in the state from which that input has been
taken: a request in IDLE, reset in any phase, a received frame where a bus primitive is outstanding, a line that
forms a frame. -/
def Obligations.StepRunsDecodedInstruction : Prop :=
  ∀ (s : State) (rest : List Input) (i : Instr),
    (∀ (e : Edge) (op : OpCode), s.inputs = .edge e :: rest → e.rst = false → s.ph = .idle → e.req = some op →
      decode s.cfg .req [op.setWidth 8] = .ok i → step s = exec i { s with cpl := none, inputs := rest }) ∧
    (∀ e : Edge, s.inputs = .edge e :: rest → e.rst = true → decode s.cfg .rst [1] = .ok i →
      step s = exec i { s with cpl := none, inputs := rest }) ∧
    (∀ (e : Edge) (rx : Frame), s.inputs = .edge e :: rest → e.rst = false → s.ph = .cXfer ∨ s.ph = .dXfer →
      e.bus = some (.ok rx) → decode s.cfg .rx (frameBytes rx) = .ok i →
      step s = exec i { s with cpl := none, inputs := rest }) ∧
    (∀ w : Frame, s.inputs = .form w :: rest → decode s.cfg .tx (frameBytes w) = .ok i →
      step s = exec i { s with inputs := rest })

/-- The model's choice (log 26, DESIGN CHOICE): a line whose word has RW = 0 and is not the nop is refused by name.
The spec says only that "the block never forms such a frame and this spec gives it no meaning" (R61; also R72(a)). -/
def Obligations.WriteFrameIsRefused : Prop :=
  ∀ (s : State) (w : Frame) (rest : List Input), s.inputs = .form w :: rest → frameRead w = false →
    w ≠ 0x0000#16 → step s = .refused (.undecodable .writeFrame)

/-! ## Encodings -/

/-- For every choice of distinct addresses, decoding the encoding of a well-formed instruction gives it back. -/
def Obligations.DecodeEncodeAgree : Prop :=
  ∀ (c : Config) (i : Instr), c.wf = true → wellFormed c i = true →
    decode c (encode c i).1 (encode c i).2 = .ok i

/-- The other direction: what decodes is encoded to the channel and the bytes it came from. (That a command word
keeps its own bit 15 is log 15, the model's choice.) -/
def Obligations.EncodeDecodeAgree : Prop :=
  ∀ (c : Config) (ch : Channel) (bytes : List Byte) (i : Instr),
    decode c ch bytes = .ok i → encode c i = (ch, bytes)

/-- R68, R62, R70: a few words of the spec and the instructions they stand for, under the defaults of R6. -/
def Obligations.SpecWordsDecode : Prop :=
  decode Config.standard .req [0b00000000#8] = .ok .rddg ∧
  decode Config.standard .req [0b00000010#8] = .ok .rdang ∧
  decode Config.standard .rst [0b00000001#8] = .ok .reset ∧
  decode Config.standard .tx [0b11111111#8, 0b11111111#8] = .ok .encAngle ∧
  decode Config.standard .tx [0b00000000#8, 0b00000000#8] = .ok .nop ∧
  decode Config.standard .rx [0b10010010#8, 0b00110100#8] = .ok (.rsp 0b10#2 0b01001000110100#14)

/-! ## Invariants -/

/-- The state after reset is coherent. -/
def Obligations.ResetIsCoherent : Prop :=
  Coherent State.reset

/-- R21, R22, R25, R49 (with log 8): every step keeps a coherent state coherent. -/
def Obligations.StepKeepsCoherence : Prop :=
  ∀ s t : State, Coherent s → step s = .next t → Coherent t

/-- After reset the history is made of operation blocks and the bus has carried nothing. -/
def Obligations.ResetHistoryIsOfBlocks : Prop :=
  HistoryOfBlocks State.reset ∧ BusSafe State.reset

/-- R47, R48, R56: every step keeps the history a concatenation of operation blocks: finished ones, each an
acceptance, the primitives up to the first error in the fixed order, and one completion with the blocking
operation's outcome; then the one in progress, as far as its phase. -/
def Obligations.HistoryIsOperationBlocks : Prop :=
  ∀ s t : State, Coherent s → HistoryOfBlocks s → step s = .next t → HistoryOfBlocks t

/-- R72 (derived there): no step makes the bus carry anything but the command frames of DiagAgc, Magnitude and
Angle and the nop. -/
def Obligations.BusCarriesOnlyLegalFrames : Prop :=
  ∀ s t : State, BusSafe s → step s = .next t → BusSafe t

/-- R28, R158: accepted requests and completions stay in step: every acceptance has had its completion, except
that of the operation in progress. -/
def Obligations.OneCompletionPerAcceptedRequest : Prop :=
  ∀ s t : State,
    s.events.countP Event.isAccept = s.events.countP Event.isComplete + pendingOps s.ph →
    step s = .next t →
    t.events.countP Event.isAccept = t.events.countP Event.isComplete + pendingOps t.ph

/-- R36, R53: no step writes the parameters. -/
def Obligations.ParametersNeverChange : Prop :=
  ∀ s t : State, step s = .next t → t.cfg = s.cfg

/-- R21: PH stays, goes to the next code, or goes to IDLE; from D_DESEL the only other phase is IDLE, and no step
writes code 7. -/
def Obligations.PhaseAdvancesByOneOrReturnsToIdle : Prop :=
  ∀ s t : State, step s = .next t →
    (t.ph = s.ph ∨ t.ph = .idle ∨ t.ph.code.toNat = s.ph.code.toNat + 1) ∧
    (t.ph = .seven → s.ph = .seven) ∧ (s.ph = .dDesel → t.ph = .dDesel ∨ t.ph = .idle)

/-- R22, R23: OPR is written only by an acceptance, RSP only by an `Ok` answer in D_XFER, with the bits clocked
back; reset leaves both unspecified. -/
def Obligations.WhoWritesOprAndRsp : Prop :=
  ∀ (s t : State) (e : Edge) (rest : List Input), s.inputs = .edge e :: rest → e.rst = false →
    step s = .next t →
    (t.opr = s.opr ∨ (s.ph = .idle ∧ e.req = some t.opr ∧ t.ph = .cSel)) ∧
    (t.rsp = s.rsp ∨ (s.ph = .dXfer ∧ e.bus = some (.ok t.rsp) ∧ t.ph = .dDesel))

/-- R28: a completion is driven only at the edge that ends an operation, and it is the one the history records. -/
def Obligations.CompletionLastsOneEdge : Prop :=
  ∀ (s t : State) (e : Edge) (rest : List Input), s.inputs = .edge e :: rest → step s = .next t →
    t.cpl = none ∨ ∃ c es, t.cpl = some c ∧ s.ph ≠ .idle ∧ t.ph = .idle ∧ t.events = .complete c :: es

/-- R133, and the phases of R121 and R122: the cause of an error completion equals the cause of the failing
primitive's answer; a bus error comes from a transfer, a chip-select error from a pin operation. -/
def Obligations.CauseIsPropagatedUnchanged : Prop :=
  ∀ (s t : State) (e : Edge) (rest : List Input), s.inputs = .edge e :: rest → step s = .next t →
    (∀ c, t.cpl = some (.busErr c) → busReq s = true ∧ e.bus = some (.err c)) ∧
    (∀ c, t.cpl = some (.csErr c) → pinReq s = true ∧ e.pin = some (.err c))

/-- R100 (with the spec's decisions D9 and D10): the chip-select line at completion, by outcome. -/
def Obligations.LineAtCompletionByOutcome : Prop :=
  ∀ (s t : State) (e : Edge) (rest : List Input) (c : Completion), Coherent s → s.inputs = .edge e :: rest →
    step s = .next t → t.cpl = some c → t.csl = lineAtCompletion c

/-! ## Ports -/

/-- R26, R27, R30: the request lines by phase; never a pin request and a bus request at once, and the block is
ready exactly when it asks for nothing. -/
def Obligations.AtMostOnePrimitiveOutstanding : Prop :=
  ∀ s : State, s.ph ≠ .seven →
    (reqReady s = true ↔ s.ph = .idle) ∧ ¬ (pinReq s = true ∧ busReq s = true) ∧
    (reqReady s = true ↔ (pinReq s = false ∧ busReq s = false)) ∧
    (pinLevel s = 0 ↔ (s.ph = .cSel ∨ s.ph = .dSel)) ∧ (pinReq s = false → pinLevel s = 1)

/-- R28, R69, R123: the completion port. `cpl_valid` is 1 exactly when an operation ends; the status is 0 for OK, 1
for a bus error, 2 for a chip-select error and never 3; the cause is present exactly for an error, the data exactly
for OK. That a field that is not valid has no value, and that a cause is a number, are the model's (log 25, log 10). -/
def Obligations.CompletionPortFields : Prop :=
  ∀ s : State,
    (cplValid s = true ↔ s.cpl.isSome = true) ∧ cplStatus s ≠ some 3 ∧
    ((cplCause s).isSome = true ↔ (cplStatus s = some 1 ∨ cplStatus s = some 2)) ∧
    ((cplData s).isSome = true ↔ cplStatus s = some 0) ∧
    (s.cpl = none → cplStatus s = none) ∧
    (∀ r, s.cpl = some (.ok r) → cplStatus s = some 0 ∧ cplCause s = none ∧ cplData s = some r.pack) ∧
    (∀ c, s.cpl = some (.busErr c) → cplStatus s = some 1 ∧ cplCause s = some c.code ∧ cplData s = none) ∧
    (∀ c, s.cpl = some (.csErr c) → cplStatus s = some 2 ∧ cplCause s = some c.code ∧ cplData s = none)

/-! ## Whole operations -/

/-- R90, R114, R47, R100, R115: from any idle state, the seven edges that present a request and the answers of a
script carry out the blocking operation: the machine is idle again, the history has grown by exactly that
operation's block, whose completion is the blocking operation's outcome, and the line is where the outcome says.
The completion depends on the operation, the script and the parameters alone. -/
def Obligations.OperationRefinesBlockingRead : Prop :=
  ∀ (s : State) (op : OpCode) (sc : Script) (es : OperationEdges) (rest : List Input),
    op ≠ 3 → s.ph = .idle → es.carry op sc → s.inputs = es.inputs ++ rest →
    ∃ t c, Host.Core.run Sys2Proof.core 7 s = .next t ∧ operation s.cfg op sc = some c ∧
      t.ph = .idle ∧ t.events = (operationBlock s.cfg op sc).reverse ++ s.events ∧
      t.csl = lineAtCompletion c ∧ t.inputs = rest ∧ t.cfg = s.cfg ∧ t.formed = s.formed

/-- R101 (derived there): how many primitives an operation issues, by where its first error falls. -/
def Obligations.PrimitivesByFirstError : Prop :=
  ∀ (cfg : Config) (op : OpCode) (sc : Script),
    let n := fun (p b : Nat) => (operationBlock cfg op sc).countP Event.isPinSet = p ∧
      (operationBlock cfg op sc).countP Event.isBusXfer = b
    (∀ c, sc.cSel = .err c → n 1 0) ∧
    (∀ c, sc.cSel = .ok → sc.cXfer = .err c → n 1 1) ∧
    (∀ x c, sc.cSel = .ok → sc.cXfer = .ok x → sc.cDesel = .err c → n 2 1) ∧
    (∀ x c, sc.cSel = .ok → sc.cXfer = .ok x → sc.cDesel = .ok → sc.dSel = .err c → n 3 1) ∧
    (∀ x c, sc.cSel = .ok → sc.cXfer = .ok x → sc.cDesel = .ok → sc.dSel = .ok → sc.dXfer = .err c → n 3 2) ∧
    (∀ x y, sc.cSel = .ok → sc.cXfer = .ok x → sc.cDesel = .ok → sc.dSel = .ok → sc.dXfer = .ok y → n 4 2)

/-- R104 (derived there): from any coherent state with an operation in progress, six edges that answer both
ports and do not reset bring a completion, and the block is in IDLE in the same step. -/
def Obligations.OperationCompletesWithinSixAnswers : Prop :=
  ∀ (s : State) (es : List Edge) (rest : List Input), Coherent s → s.ph ≠ .idle → es.length = 6 →
    (∀ e ∈ es, e.rst = false ∧ e.pin.isSome = true ∧ e.bus.isSome = true) →
    s.inputs = es.map Input.edge ++ rest →
    ∃ k t, k ≤ 6 ∧ Host.Core.run Sys2Proof.core k s = .next t ∧ t.ph = .idle ∧ t.cpl.isSome = true

/-- R71, R10, R129: under a host that keeps its obligations, a coherent machine never stops: every number of
steps ends in a next state, coherent again. -/
def Obligations.ObedientHostNeverStopsTheBlock : Prop :=
  ∀ (k : Nat) (s : State), Coherent s → (∀ inp ∈ s.inputs, hostInputOk s.cfg inp = true) →
    ∃ t, Host.Core.run Sys2Proof.core k s = .next t ∧ Coherent t

/-- R103 (derived there): the bits clocked back in the command phase reach nothing: two runs that differ only in
them agree, however long, in everything but the history's record of them; every later primitive, with its answer,
and every completion is the same, as is any stop. -/
def Obligations.CommandPhaseAnswerReachesNothing : Prop :=
  ∀ (k : Nat) (s : State) (e : Edge) (rest : List Input) (rx rx' : Frame), s.ph = .cXfer →
    let t := (commandFrame s.cfg s.opr).getD nopFrame
    AgreeButRecord (.busXfer t (.ok rx)) (.busXfer t (.ok rx')) s.events
      (Host.Core.run Sys2Proof.core (k + 1) { s with inputs := .edge { e with bus := some (.ok rx) } :: rest })
      (Host.Core.run Sys2Proof.core (k + 1) { s with inputs := .edge { e with bus := some (.ok rx') } :: rest })

/-- R103, R63, R153: the status bits of the response do not reach the completion: two runs that differ only in
bits 15:14 of the data-phase answer complete alike. -/
def Obligations.StatusBitsDoNotReachCompletion : Prop :=
  ∀ (s : State) (e e' : Edge) (rest : List Input) (st st' : BitVec 2) (val : Addr) (a : PinAnswer),
    s.ph = .dXfer → s.opr ≠ 3 → (s.opr = 0 → s.cfg.dgSplit = .scenario) → e.rst = false → e'.rst = false →
    e'.pin = some a →
    ∃ t t', Host.Core.run Sys2Proof.core 2
        { s with inputs := .edge { e with bus := some (.ok (responseFrame st val)) } :: .edge e' :: rest } = .next t ∧
      Host.Core.run Sys2Proof.core 2
        { s with inputs := .edge { e with bus := some (.ok (responseFrame st' val)) } :: .edge e' :: rest } = .next t' ∧
      t.cpl = t'.cpl ∧ t.cpl.isSome = true ∧ t.csl = t'.csl ∧ t.ph = t'.ph

/-- R49, R147 with log 8 and log 9: if the line was INACTIVE and the sensor answers the data phase as a pipelined
device does, RDMAG and RDANG, with the document's 14-bit mask (R156), return
the content of their own register, whatever was asked before. -/
def Obligations.PipelinedSensorGivesOwnRegister : Prop :=
  ∀ (s t : State) (op : OpCode) (r : Register) (sc : Script) (es : OperationEdges) (rest : List Input)
    (content : Addr → Addr) (rx : Frame) (v : Addr),
    s.ph = .idle → s.csl = .inactive → s.cfg.lits = .source → op = 1 ∨ op = 2 → regOf op = some r →
    es.carry op sc → s.inputs = es.inputs ++ rest → sc.dXfer = .ok rx →
    Host.Core.run Sys2Proof.core 5 s = .next t → PipelinedAnswer content t.pend rx →
    operation s.cfg op sc = some (.ok (.value v)) → v = content (s.cfg.addr r)

/-- R46 with log 8: after an operation that completes with a value the sensor's pending request is the nop's. -/
def Obligations.PendingRequestAfterSuccessIsTheNop : Prop :=
  ∀ (s t : State) (e : Edge) (rest : List Input) (r : Reading), Coherent s → s.inputs = .edge e :: rest →
    step s = .next t → t.cpl = some (.ok r) → t.pend = some 0

/-- R158 ("unknown after a failure") with log 8: after an operation that completes with an error, whichever of its
primitives failed, the sensor's pending request is unknown. -/
def Obligations.PendingRequestAfterFailureIsUnknown : Prop :=
  ∀ (s t : State) (e : Edge) (rest : List Input), s.inputs = .edge e :: rest → step s = .next t →
    (∀ c, t.cpl = some (.busErr c) → t.pend = none) ∧ (∀ c, t.cpl = some (.csErr c) → t.pend = none)
end

