-- ==== Sys2Proof/Laws/Codec.lean ====
section
/-! SUPPORT. Small facts about the codec, the bytes of a frame and the Register Map. -/

namespace Sys2Proof

/-! ### Bytes and fields -/

theorem frameOfBytes_getLsbD (b0 b1 : Byte) (i : Nat) :
    (frameOfBytes b0 b1).getLsbD i = if i < 8 then b1.getLsbD i else b0.getLsbD (i - 8) := by
  unfold frameOfBytes
  rw [BitVec.getLsbD_append]

theorem responseFrame_getLsbD (st : BitVec 2) (v : Addr) (i : Nat) :
    (responseFrame st v).getLsbD i = if i < 14 then v.getLsbD i else st.getLsbD (i - 14) := by
  unfold responseFrame
  rw [BitVec.getLsbD_append]

@[simp] theorem frameOfBytes_bytes (f : Frame) : frameOfBytes (byte0 f) (byte1 f) = f := by
  apply BitVec.eq_of_getLsbD_eq
  intro i hi
  rw [frameOfBytes_getLsbD]
  simp only [byte0, byte1, BitVec.getLsbD_extractLsb']
  rcases Nat.lt_or_ge i 8 with h | h
  · simp [h]
  · have : i - 8 < 8 := by omega
    simp [Nat.not_lt.mpr h, Nat.add_sub_cancel' h, this]

@[simp] theorem byte0_frameOfBytes (b0 b1 : Byte) : byte0 (frameOfBytes b0 b1) = b0 := by
  apply BitVec.eq_of_getLsbD_eq
  intro i hi
  simp only [byte0, BitVec.getLsbD_extractLsb', frameOfBytes_getLsbD]
  simp [hi]

@[simp] theorem byte1_frameOfBytes (b0 b1 : Byte) : byte1 (frameOfBytes b0 b1) = b1 := by
  apply BitVec.eq_of_getLsbD_eq
  intro i hi
  simp only [byte1, BitVec.getLsbD_extractLsb', frameOfBytes_getLsbD]
  simp [hi]

@[simp] theorem respVal_responseFrame (st : BitVec 2) (v : Addr) : respVal (responseFrame st v) = v := by
  apply BitVec.eq_of_getLsbD_eq
  intro i hi
  simp only [respVal, BitVec.getLsbD_extractLsb', responseFrame_getLsbD]
  simp [hi]

@[simp] theorem respStatus_responseFrame (st : BitVec 2) (v : Addr) : respStatus (responseFrame st v) = st := by
  apply BitVec.eq_of_getLsbD_eq
  intro i hi
  simp only [respStatus, BitVec.getLsbD_extractLsb', responseFrame_getLsbD]
  simp [hi]

@[simp] theorem responseFrame_fields (f : Frame) : responseFrame (respStatus f) (respVal f) = f := by
  apply BitVec.eq_of_getLsbD_eq
  intro i hi
  rw [responseFrame_getLsbD]
  simp only [respStatus, respVal, BitVec.getLsbD_extractLsb']
  rcases Nat.lt_or_ge i 14 with h | h
  · simp [h]
  · have : i - 14 < 2 := by omega
    simp [Nat.not_lt.mpr h, Nat.add_sub_cancel' h, this]

/-! ### The response fields POST computes with the literals of the record -/

/-- The masked value depends on the low 14 bits only, whatever the mask. -/
theorem maskedValue_eq (l : Literals) (v : Frame) : maskedValue l v = respVal v &&& l.valueMask.setWidth 14 := by
  apply BitVec.eq_of_getLsbD_eq
  intro i hi
  simp [maskedValue, respVal, hi]

/-- The diag depends on the low four bits only, whatever the bound. -/
theorem lowDiag_eq (l : Literals) (x : Frame) :
    lowDiag l x = x.extractLsb' 0 4 &&& (l.diagBound - 1).setWidth 4 := by
  apply BitVec.eq_of_getLsbD_eq
  intro i hi
  simp [lowDiag, hi]

@[simp] theorem maskedValue_source (v : Frame) : maskedValue .source v = respVal v := by
  rw [maskedValue_eq, show Literals.source.valueMask.setWidth 14 = BitVec.allOnes 14 by decide, BitVec.and_allOnes]

theorem lowDiag_source (x : Frame) : lowDiag .source x = x.extractLsb' 0 4 := by
  rw [lowDiag_eq, show (Literals.source.diagBound - 1).setWidth 4 = BitVec.allOnes 4 by decide, BitVec.and_allOnes]

/-- The four bits POST shifts down for DIAG. -/
theorem shiftedDiag (v : Frame) : (v >>> 8).extractLsb' 0 4 = respDiag v := by
  apply BitVec.eq_of_getLsbD_eq
  intro i hi
  simp [respDiag, hi, BitVec.getLsbD_ushiftRight]

/-- The record of the defaults is consistent, and so are its literals with each other. -/
theorem standard_literalsAgree : Config.standard.literalsAgree = true := by decide

/-! ### REG_OF -/

theorem regOf_isSome (op : OpCode) (h : op ≠ 3) : (regOf op).isSome = true := by
  revert op; decide

theorem regOf_three : regOf 3 = none := rfl

/-! ### The bits of a command frame -/

theorem commandBase_getLsbD (a : Addr) (i : Nat) (hi : i < 16) :
    (commandBase a).getLsbD i = if i < 14 then a.getLsbD i else i == 14 := by
  unfold commandBase
  rw [BitVec.getLsbD_append]
  split
  · rfl
  · have : i = 14 ∨ i = 15 := by omega
    rcases this with rfl | rfl <;> decide

theorem enc_getLsbD (a : Addr) (i : Nat) (hi : i < 16) :
    (enc a).getLsbD i = ((commandBase a).getLsbD i || (i == 15 && (fold (commandBase a)).getLsbD 0)) := by
  unfold enc
  simp only [BitVec.getLsbD_or, BitVec.getLsbD_shiftLeft, BitVec.getLsbD_setWidth]
  by_cases h : i = 15
  · subst h; simp
  · have : i < 15 := by omega
    simp [h, this]

theorem enc_read (a : Addr) : frameRead (enc a) = true := by
  unfold frameRead
  rw [enc_getLsbD a 14 (by omega), commandBase_getLsbD a 14 (by omega)]
  rfl

theorem enc_addr (a : Addr) : frameAddr (enc a) = a := by
  apply BitVec.eq_of_getLsbD_eq
  intro i hi
  have : i ≠ 15 := by omega
  simp [frameAddr, hi, enc_getLsbD a i (by omega), commandBase_getLsbD a i (by omega), this]

theorem enc_ne_nop (a : Addr) : enc a ≠ nopFrame := by
  intro h
  have h14 := enc_read a
  rw [h] at h14
  exact absurd h14 (by decide)

end Sys2Proof
end

