-- ==== Sys2Proof/Laws/State.lean ====
section
/-! SUPPORT. What each update of State leaves in each field: one lemma per field per update. -/

namespace Sys2Proof.Machine

/-! ### setPh -/

@[simp] theorem State.setPh_ph (x : Phase) (s : State) : (s.setPh x).ph = x := rfl
@[simp] theorem State.setPh_opr (x : Phase) (s : State) : (s.setPh x).opr = s.opr := rfl
@[simp] theorem State.setPh_rsp (x : Phase) (s : State) : (s.setPh x).rsp = s.rsp := rfl
@[simp] theorem State.setPh_csl (x : Phase) (s : State) : (s.setPh x).csl = s.csl := rfl
@[simp] theorem State.setPh_framed (x : Phase) (s : State) : (s.setPh x).framed = s.framed := rfl
@[simp] theorem State.setPh_pend (x : Phase) (s : State) : (s.setPh x).pend = s.pend := rfl
@[simp] theorem State.setPh_cpl (x : Phase) (s : State) : (s.setPh x).cpl = s.cpl := rfl
@[simp] theorem State.setPh_events (x : Phase) (s : State) : (s.setPh x).events = s.events := rfl
@[simp] theorem State.setPh_formed (x : Phase) (s : State) : (s.setPh x).formed = s.formed := rfl
@[simp] theorem State.setPh_inputs (x : Phase) (s : State) : (s.setPh x).inputs = s.inputs := rfl
@[simp] theorem State.setPh_fresh (x : Phase) (s : State) : (s.setPh x).fresh = s.fresh := rfl
@[simp] theorem State.setPh_cfg (x : Phase) (s : State) : (s.setPh x).cfg = s.cfg := rfl

/-! ### setOpr -/

@[simp] theorem State.setOpr_ph (x : OpCode) (s : State) : (s.setOpr x).ph = s.ph := rfl
@[simp] theorem State.setOpr_opr (x : OpCode) (s : State) : (s.setOpr x).opr = x := rfl
@[simp] theorem State.setOpr_rsp (x : OpCode) (s : State) : (s.setOpr x).rsp = s.rsp := rfl
@[simp] theorem State.setOpr_csl (x : OpCode) (s : State) : (s.setOpr x).csl = s.csl := rfl
@[simp] theorem State.setOpr_framed (x : OpCode) (s : State) : (s.setOpr x).framed = s.framed := rfl
@[simp] theorem State.setOpr_pend (x : OpCode) (s : State) : (s.setOpr x).pend = s.pend := rfl
@[simp] theorem State.setOpr_cpl (x : OpCode) (s : State) : (s.setOpr x).cpl = s.cpl := rfl
@[simp] theorem State.setOpr_events (x : OpCode) (s : State) : (s.setOpr x).events = s.events := rfl
@[simp] theorem State.setOpr_formed (x : OpCode) (s : State) : (s.setOpr x).formed = s.formed := rfl
@[simp] theorem State.setOpr_inputs (x : OpCode) (s : State) : (s.setOpr x).inputs = s.inputs := rfl
@[simp] theorem State.setOpr_fresh (x : OpCode) (s : State) : (s.setOpr x).fresh = s.fresh := rfl
@[simp] theorem State.setOpr_cfg (x : OpCode) (s : State) : (s.setOpr x).cfg = s.cfg := rfl

/-! ### setRsp -/

@[simp] theorem State.setRsp_ph (x : Frame) (s : State) : (s.setRsp x).ph = s.ph := rfl
@[simp] theorem State.setRsp_opr (x : Frame) (s : State) : (s.setRsp x).opr = s.opr := rfl
@[simp] theorem State.setRsp_rsp (x : Frame) (s : State) : (s.setRsp x).rsp = x := rfl
@[simp] theorem State.setRsp_csl (x : Frame) (s : State) : (s.setRsp x).csl = s.csl := rfl
@[simp] theorem State.setRsp_framed (x : Frame) (s : State) : (s.setRsp x).framed = s.framed := rfl
@[simp] theorem State.setRsp_pend (x : Frame) (s : State) : (s.setRsp x).pend = s.pend := rfl
@[simp] theorem State.setRsp_cpl (x : Frame) (s : State) : (s.setRsp x).cpl = s.cpl := rfl
@[simp] theorem State.setRsp_events (x : Frame) (s : State) : (s.setRsp x).events = s.events := rfl
@[simp] theorem State.setRsp_formed (x : Frame) (s : State) : (s.setRsp x).formed = s.formed := rfl
@[simp] theorem State.setRsp_inputs (x : Frame) (s : State) : (s.setRsp x).inputs = s.inputs := rfl
@[simp] theorem State.setRsp_fresh (x : Frame) (s : State) : (s.setRsp x).fresh = s.fresh := rfl
@[simp] theorem State.setRsp_cfg (x : Frame) (s : State) : (s.setRsp x).cfg = s.cfg := rfl

/-! ### setCsl -/

@[simp] theorem State.setCsl_ph (x : Level) (s : State) : (s.setCsl x).ph = s.ph := rfl
@[simp] theorem State.setCsl_opr (x : Level) (s : State) : (s.setCsl x).opr = s.opr := rfl
@[simp] theorem State.setCsl_rsp (x : Level) (s : State) : (s.setCsl x).rsp = s.rsp := rfl
@[simp] theorem State.setCsl_csl (x : Level) (s : State) : (s.setCsl x).csl = x := rfl
@[simp] theorem State.setCsl_framed (x : Level) (s : State) : (s.setCsl x).framed = s.framed := rfl
@[simp] theorem State.setCsl_pend (x : Level) (s : State) : (s.setCsl x).pend = s.pend := rfl
@[simp] theorem State.setCsl_cpl (x : Level) (s : State) : (s.setCsl x).cpl = s.cpl := rfl
@[simp] theorem State.setCsl_events (x : Level) (s : State) : (s.setCsl x).events = s.events := rfl
@[simp] theorem State.setCsl_formed (x : Level) (s : State) : (s.setCsl x).formed = s.formed := rfl
@[simp] theorem State.setCsl_inputs (x : Level) (s : State) : (s.setCsl x).inputs = s.inputs := rfl
@[simp] theorem State.setCsl_fresh (x : Level) (s : State) : (s.setCsl x).fresh = s.fresh := rfl
@[simp] theorem State.setCsl_cfg (x : Level) (s : State) : (s.setCsl x).cfg = s.cfg := rfl

/-! ### setFramed -/

@[simp] theorem State.setFramed_ph (x : Bool) (s : State) : (s.setFramed x).ph = s.ph := rfl
@[simp] theorem State.setFramed_opr (x : Bool) (s : State) : (s.setFramed x).opr = s.opr := rfl
@[simp] theorem State.setFramed_rsp (x : Bool) (s : State) : (s.setFramed x).rsp = s.rsp := rfl
@[simp] theorem State.setFramed_csl (x : Bool) (s : State) : (s.setFramed x).csl = s.csl := rfl
@[simp] theorem State.setFramed_framed (x : Bool) (s : State) : (s.setFramed x).framed = x := rfl
@[simp] theorem State.setFramed_pend (x : Bool) (s : State) : (s.setFramed x).pend = s.pend := rfl
@[simp] theorem State.setFramed_cpl (x : Bool) (s : State) : (s.setFramed x).cpl = s.cpl := rfl
@[simp] theorem State.setFramed_events (x : Bool) (s : State) : (s.setFramed x).events = s.events := rfl
@[simp] theorem State.setFramed_formed (x : Bool) (s : State) : (s.setFramed x).formed = s.formed := rfl
@[simp] theorem State.setFramed_inputs (x : Bool) (s : State) : (s.setFramed x).inputs = s.inputs := rfl
@[simp] theorem State.setFramed_fresh (x : Bool) (s : State) : (s.setFramed x).fresh = s.fresh := rfl
@[simp] theorem State.setFramed_cfg (x : Bool) (s : State) : (s.setFramed x).cfg = s.cfg := rfl

/-! ### setPend -/

@[simp] theorem State.setPend_ph (x : Option Addr) (s : State) : (s.setPend x).ph = s.ph := rfl
@[simp] theorem State.setPend_opr (x : Option Addr) (s : State) : (s.setPend x).opr = s.opr := rfl
@[simp] theorem State.setPend_rsp (x : Option Addr) (s : State) : (s.setPend x).rsp = s.rsp := rfl
@[simp] theorem State.setPend_csl (x : Option Addr) (s : State) : (s.setPend x).csl = s.csl := rfl
@[simp] theorem State.setPend_framed (x : Option Addr) (s : State) : (s.setPend x).framed = s.framed := rfl
@[simp] theorem State.setPend_pend (x : Option Addr) (s : State) : (s.setPend x).pend = x := rfl
@[simp] theorem State.setPend_cpl (x : Option Addr) (s : State) : (s.setPend x).cpl = s.cpl := rfl
@[simp] theorem State.setPend_events (x : Option Addr) (s : State) : (s.setPend x).events = s.events := rfl
@[simp] theorem State.setPend_formed (x : Option Addr) (s : State) : (s.setPend x).formed = s.formed := rfl
@[simp] theorem State.setPend_inputs (x : Option Addr) (s : State) : (s.setPend x).inputs = s.inputs := rfl
@[simp] theorem State.setPend_fresh (x : Option Addr) (s : State) : (s.setPend x).fresh = s.fresh := rfl
@[simp] theorem State.setPend_cfg (x : Option Addr) (s : State) : (s.setPend x).cfg = s.cfg := rfl

/-! ### setCpl -/

@[simp] theorem State.setCpl_ph (x : Option Completion) (s : State) : (s.setCpl x).ph = s.ph := rfl
@[simp] theorem State.setCpl_opr (x : Option Completion) (s : State) : (s.setCpl x).opr = s.opr := rfl
@[simp] theorem State.setCpl_rsp (x : Option Completion) (s : State) : (s.setCpl x).rsp = s.rsp := rfl
@[simp] theorem State.setCpl_csl (x : Option Completion) (s : State) : (s.setCpl x).csl = s.csl := rfl
@[simp] theorem State.setCpl_framed (x : Option Completion) (s : State) : (s.setCpl x).framed = s.framed := rfl
@[simp] theorem State.setCpl_pend (x : Option Completion) (s : State) : (s.setCpl x).pend = s.pend := rfl
@[simp] theorem State.setCpl_cpl (x : Option Completion) (s : State) : (s.setCpl x).cpl = x := rfl
@[simp] theorem State.setCpl_events (x : Option Completion) (s : State) : (s.setCpl x).events = s.events := rfl
@[simp] theorem State.setCpl_formed (x : Option Completion) (s : State) : (s.setCpl x).formed = s.formed := rfl
@[simp] theorem State.setCpl_inputs (x : Option Completion) (s : State) : (s.setCpl x).inputs = s.inputs := rfl
@[simp] theorem State.setCpl_fresh (x : Option Completion) (s : State) : (s.setCpl x).fresh = s.fresh := rfl
@[simp] theorem State.setCpl_cfg (x : Option Completion) (s : State) : (s.setCpl x).cfg = s.cfg := rfl

/-! ### setEvents -/

@[simp] theorem State.setEvents_ph (x : List Event) (s : State) : (s.setEvents x).ph = s.ph := rfl
@[simp] theorem State.setEvents_opr (x : List Event) (s : State) : (s.setEvents x).opr = s.opr := rfl
@[simp] theorem State.setEvents_rsp (x : List Event) (s : State) : (s.setEvents x).rsp = s.rsp := rfl
@[simp] theorem State.setEvents_csl (x : List Event) (s : State) : (s.setEvents x).csl = s.csl := rfl
@[simp] theorem State.setEvents_framed (x : List Event) (s : State) : (s.setEvents x).framed = s.framed := rfl
@[simp] theorem State.setEvents_pend (x : List Event) (s : State) : (s.setEvents x).pend = s.pend := rfl
@[simp] theorem State.setEvents_cpl (x : List Event) (s : State) : (s.setEvents x).cpl = s.cpl := rfl
@[simp] theorem State.setEvents_events (x : List Event) (s : State) : (s.setEvents x).events = x := rfl
@[simp] theorem State.setEvents_formed (x : List Event) (s : State) : (s.setEvents x).formed = s.formed := rfl
@[simp] theorem State.setEvents_inputs (x : List Event) (s : State) : (s.setEvents x).inputs = s.inputs := rfl
@[simp] theorem State.setEvents_fresh (x : List Event) (s : State) : (s.setEvents x).fresh = s.fresh := rfl
@[simp] theorem State.setEvents_cfg (x : List Event) (s : State) : (s.setEvents x).cfg = s.cfg := rfl

/-! ### setFormed -/

@[simp] theorem State.setFormed_ph (x : Option Frame) (s : State) : (s.setFormed x).ph = s.ph := rfl
@[simp] theorem State.setFormed_opr (x : Option Frame) (s : State) : (s.setFormed x).opr = s.opr := rfl
@[simp] theorem State.setFormed_rsp (x : Option Frame) (s : State) : (s.setFormed x).rsp = s.rsp := rfl
@[simp] theorem State.setFormed_csl (x : Option Frame) (s : State) : (s.setFormed x).csl = s.csl := rfl
@[simp] theorem State.setFormed_framed (x : Option Frame) (s : State) : (s.setFormed x).framed = s.framed := rfl
@[simp] theorem State.setFormed_pend (x : Option Frame) (s : State) : (s.setFormed x).pend = s.pend := rfl
@[simp] theorem State.setFormed_cpl (x : Option Frame) (s : State) : (s.setFormed x).cpl = s.cpl := rfl
@[simp] theorem State.setFormed_events (x : Option Frame) (s : State) : (s.setFormed x).events = s.events := rfl
@[simp] theorem State.setFormed_formed (x : Option Frame) (s : State) : (s.setFormed x).formed = x := rfl
@[simp] theorem State.setFormed_inputs (x : Option Frame) (s : State) : (s.setFormed x).inputs = s.inputs := rfl
@[simp] theorem State.setFormed_fresh (x : Option Frame) (s : State) : (s.setFormed x).fresh = s.fresh := rfl
@[simp] theorem State.setFormed_cfg (x : Option Frame) (s : State) : (s.setFormed x).cfg = s.cfg := rfl

/-! ### setInputs -/

@[simp] theorem State.setInputs_ph (x : List Input) (s : State) : (s.setInputs x).ph = s.ph := rfl
@[simp] theorem State.setInputs_opr (x : List Input) (s : State) : (s.setInputs x).opr = s.opr := rfl
@[simp] theorem State.setInputs_rsp (x : List Input) (s : State) : (s.setInputs x).rsp = s.rsp := rfl
@[simp] theorem State.setInputs_csl (x : List Input) (s : State) : (s.setInputs x).csl = s.csl := rfl
@[simp] theorem State.setInputs_framed (x : List Input) (s : State) : (s.setInputs x).framed = s.framed := rfl
@[simp] theorem State.setInputs_pend (x : List Input) (s : State) : (s.setInputs x).pend = s.pend := rfl
@[simp] theorem State.setInputs_cpl (x : List Input) (s : State) : (s.setInputs x).cpl = s.cpl := rfl
@[simp] theorem State.setInputs_events (x : List Input) (s : State) : (s.setInputs x).events = s.events := rfl
@[simp] theorem State.setInputs_formed (x : List Input) (s : State) : (s.setInputs x).formed = s.formed := rfl
@[simp] theorem State.setInputs_inputs (x : List Input) (s : State) : (s.setInputs x).inputs = x := rfl
@[simp] theorem State.setInputs_fresh (x : List Input) (s : State) : (s.setInputs x).fresh = s.fresh := rfl
@[simp] theorem State.setInputs_cfg (x : List Input) (s : State) : (s.setInputs x).cfg = s.cfg := rfl

/-! ### setFresh -/

@[simp] theorem State.setFresh_ph (x : Nat) (s : State) : (s.setFresh x).ph = s.ph := rfl
@[simp] theorem State.setFresh_opr (x : Nat) (s : State) : (s.setFresh x).opr = s.opr := rfl
@[simp] theorem State.setFresh_rsp (x : Nat) (s : State) : (s.setFresh x).rsp = s.rsp := rfl
@[simp] theorem State.setFresh_csl (x : Nat) (s : State) : (s.setFresh x).csl = s.csl := rfl
@[simp] theorem State.setFresh_framed (x : Nat) (s : State) : (s.setFresh x).framed = s.framed := rfl
@[simp] theorem State.setFresh_pend (x : Nat) (s : State) : (s.setFresh x).pend = s.pend := rfl
@[simp] theorem State.setFresh_cpl (x : Nat) (s : State) : (s.setFresh x).cpl = s.cpl := rfl
@[simp] theorem State.setFresh_events (x : Nat) (s : State) : (s.setFresh x).events = s.events := rfl
@[simp] theorem State.setFresh_formed (x : Nat) (s : State) : (s.setFresh x).formed = s.formed := rfl
@[simp] theorem State.setFresh_inputs (x : Nat) (s : State) : (s.setFresh x).inputs = s.inputs := rfl
@[simp] theorem State.setFresh_fresh (x : Nat) (s : State) : (s.setFresh x).fresh = x := rfl
@[simp] theorem State.setFresh_cfg (x : Nat) (s : State) : (s.setFresh x).cfg = s.cfg := rfl

/-! ### log -/

@[simp] theorem State.log_ph (e : Event) (s : State) : (s.log e).ph = s.ph := rfl
@[simp] theorem State.log_opr (e : Event) (s : State) : (s.log e).opr = s.opr := rfl
@[simp] theorem State.log_rsp (e : Event) (s : State) : (s.log e).rsp = s.rsp := rfl
@[simp] theorem State.log_csl (e : Event) (s : State) : (s.log e).csl = s.csl := rfl
@[simp] theorem State.log_framed (e : Event) (s : State) : (s.log e).framed = s.framed := rfl
@[simp] theorem State.log_pend (e : Event) (s : State) : (s.log e).pend = s.pend := rfl
@[simp] theorem State.log_cpl (e : Event) (s : State) : (s.log e).cpl = s.cpl := rfl
@[simp] theorem State.log_events (e : Event) (s : State) : (s.log e).events = e :: s.events := rfl
@[simp] theorem State.log_formed (e : Event) (s : State) : (s.log e).formed = s.formed := rfl
@[simp] theorem State.log_inputs (e : Event) (s : State) : (s.log e).inputs = s.inputs := rfl
@[simp] theorem State.log_fresh (e : Event) (s : State) : (s.log e).fresh = s.fresh := rfl
@[simp] theorem State.log_cfg (e : Event) (s : State) : (s.log e).cfg = s.cfg := rfl

end Sys2Proof.Machine
end

