-- ==== Sys2Proof/Laws/Ops.lean ====
section
/-! SUPPORT. One equation per shared operation, transition and meaning: what it leaves, field by field, so that no
later proof unfolds it. -/

namespace Sys2Proof.Machine

/-! ### Primitives, completion -/

theorem pinSettled_ok (l : Level) (s : State) : pinSettled l .ok s =
    { s with csl := l, framed := l == .active && s.csl == .inactive, events := .pinSet l .ok :: s.events } := rfl

theorem pinSettled_err (l : Level) (c : PinCause) (s : State) : pinSettled l (.err c) s =
    { s with csl := .unknown, framed := false, pend := none, events := .pinSet l (.err c) :: s.events } := rfl

theorem busSettled_ok (t rx : Frame) (s : State) : busSettled t (.ok rx) s =
    { s with pend := if s.framed then some (frameAddr t) else none,
             events := .busXfer t (.ok rx) :: s.events } := rfl

theorem busSettled_err (t : Frame) (c : BusCause) (s : State) : busSettled t (.err c) s =
    { s with pend := none, events := .busXfer t (.err c) :: s.events } := rfl

theorem complete_eq (c : Completion) (s : State) : complete c s =
    { s with ph := .idle, cpl := some c, events := .complete c :: s.events } := rfl

/-! ### Transitions R92 to R97 -/

theorem selectForCommand_ok (s : State) : selectForCommand .ok s =
    { s with ph := .cXfer, csl := .active, framed := s.csl == .inactive,
             events := .pinSet .active .ok :: s.events } := rfl

theorem selectForCommand_err (c : PinCause) (s : State) : selectForCommand (.err c) s =
    { s with ph := .idle, csl := .unknown, framed := false, pend := none, cpl := some (.csErr c),
             events := .complete (.csErr c) :: .pinSet .active (.err c) :: s.events } := rfl

theorem transferCommand_ok (t rx : Frame) (s : State) : transferCommand t (.ok rx) s =
    { s with ph := .cDesel, pend := if s.framed then some (frameAddr t) else none,
             events := .busXfer t (.ok rx) :: s.events } := rfl

theorem transferCommand_err (t : Frame) (c : BusCause) (s : State) : transferCommand t (.err c) s =
    { s with ph := .idle, pend := none, cpl := some (.busErr c),
             events := .complete (.busErr c) :: .busXfer t (.err c) :: s.events } := rfl

theorem deselectAfterCommand_ok (s : State) : deselectAfterCommand .ok s =
    { s with ph := .dSel, csl := .inactive, framed := false,
             events := .pinSet .inactive .ok :: s.events } := rfl

theorem deselectAfterCommand_err (c : PinCause) (s : State) : deselectAfterCommand (.err c) s =
    { s with ph := .idle, csl := .unknown, framed := false, pend := none, cpl := some (.csErr c),
             events := .complete (.csErr c) :: .pinSet .inactive (.err c) :: s.events } := rfl

theorem selectForData_ok (s : State) : selectForData .ok s =
    { s with ph := .dXfer, csl := .active, framed := s.csl == .inactive,
             events := .pinSet .active .ok :: s.events } := rfl

theorem selectForData_err (c : PinCause) (s : State) : selectForData (.err c) s =
    { s with ph := .idle, csl := .unknown, framed := false, pend := none, cpl := some (.csErr c),
             events := .complete (.csErr c) :: .pinSet .active (.err c) :: s.events } := rfl

theorem transferData_ok (rx : Frame) (s : State) : transferData (.ok rx) s =
    { s with ph := .dDesel, rsp := rx, pend := if s.framed then some (frameAddr nopFrame) else none,
             events := .busXfer nopFrame (.ok rx) :: s.events } := rfl

theorem transferData_err (c : BusCause) (s : State) : transferData (.err c) s =
    { s with ph := .idle, pend := none, cpl := some (.busErr c),
             events := .complete (.busErr c) :: .busXfer nopFrame (.err c) :: s.events } := rfl

theorem completeRead_eq (r : Reading) (s : State) : completeRead r s =
    { s with ph := .idle, csl := .inactive, framed := false, cpl := some (.ok r),
             events := .complete (.ok r) :: .pinSet .inactive .ok :: s.events } := rfl

theorem failFinalDeselect_eq (c : PinCause) (s : State) : failFinalDeselect c s =
    { s with ph := .idle, csl := .unknown, framed := false, pend := none, cpl := some (.csErr c),
             events := .complete (.csErr c) :: .pinSet .inactive (.err c) :: s.events } := rfl

/-! ### Post-processing -/

theorem post_isSome (c : Config) (op : OpCode) (v : Frame) (h : op ≠ 3) :
    (post c op v).isSome = true := by
  have : op = 0 ∨ op = 1 ∨ op = 2 := by revert op; decide
  rcases this with rfl | rfl | rfl
  · unfold post; cases c.dgSplit <;> rfl
  · rfl
  · rfl

/-- POST for RDDG with the layout of the §8 example, in the fields of the response. -/
theorem post_zero_scenario (c : Config) (v : Frame) (h : c.dgSplit = .scenario) :
    post c 0 v = some (.diagGain (respDiag v &&& (c.lits.diagBound - 1).setWidth 4) (respGain v)) := by
  simp [post, h, lowDiag_eq, shiftedDiag]

/-- POST for RDMAG and RDANG, in the field of the response. -/
theorem post_value (c : Config) (op : OpCode) (v : Frame) (h : op = 1 ∨ op = 2) :
    post c op v = some (.value (respVal v &&& c.lits.valueMask.setWidth 14)) := by
  rcases h with rfl | rfl <;> simp [post, maskedValue_eq]

theorem post_three (c : Config) (v : Frame) : post c 3 v = none := rfl

/-! ### Meanings -/

theorem accept_idle (op : OpCode) (s : State) (h : s.ph = .idle) : accept op s =
    .next { s with opr := op, ph := .cSel, events := .accept op :: s.events } := by
  unfold accept; rw [h]; rfl

theorem accept_busy (op : OpCode) (s : State) (h : s.ph ≠ .idle) (h7 : s.ph ≠ .seven) :
    accept op s = .next s := by
  unfold accept
  cases hp : s.ph <;> simp_all

theorem form_eq (f : Frame) (s : State) : form f s = .next { s with formed := some f } := rfl

theorem exec_rsp (st : BitVec 2) (val : Addr) (s : State) :
    exec (.rsp st val) s = busAnswered (.ok (responseFrame st val)) s := rfl

theorem exec_reset (s : State) : exec .reset s = .next { s with
    ph := .idle, opr := Config.freeOpr s.fresh, rsp := Config.freeRsp s.fresh, csl := lineAfterReset s,
    framed := false, pend := pendAfterReset s, cpl := none, events := [], fresh := s.fresh + 1 } := rfl

/-- The request instructions are the acceptance of their code. -/
theorem exec_decodeRequest (op : OpCode) (h : op ≠ 3) (s : State) : exec (decodeRequest op) s = accept op s := by
  have : op = 0 ∨ op = 1 ∨ op = 2 := by revert op; decide
  rcases this with rfl | rfl | rfl <;> rfl

end Sys2Proof.Machine
end

