-- ==== Sys2Proof/Laws/PerInstr.lean ====
section
/-! SUPPORT. Family FixedLength: "Every format has one fixed length" (30_encoding.md R74), per instruction. -/

namespace Sys2Proof.Laws.FixedLength

open Sys2Proof

/-- The bytes of a word on a channel: one for a request code or the reset input, two for a frame. -/
def bytesOn : Channel → Nat
  | .req | .rst => 1
  | .tx | .rx => 2

/-- Whatever its operands and the parameters, the instruction is encoded in the length of its channel. -/
def Statement (i : Instr) : Prop := ∀ c : Config, (encode c i).2.length = bytesOn (encode c i).1

theorem rddg : Statement .rddg := fun _ => rfl
theorem rdmag : Statement .rdmag := fun _ => rfl
theorem rdang : Statement .rdang := fun _ => rfl
theorem reserved3 : Statement .reserved3 := fun _ => rfl
theorem reset : Statement .reset := fun _ => rfl
theorem enc (p : Bit) (a : Addr) : Statement (.enc p a) := fun _ => rfl
theorem encClearErrorFlag : Statement .encClearErrorFlag := fun _ => rfl
theorem encProgrammingControl : Statement .encProgrammingControl := fun _ => rfl
theorem encOtpZeroPosHigh : Statement .encOtpZeroPosHigh := fun _ => rfl
theorem encOtpZeroPosLow : Statement .encOtpZeroPosLow := fun _ => rfl
theorem encDiagAgc : Statement .encDiagAgc := fun _ => rfl
theorem encMagnitude : Statement .encMagnitude := fun _ => rfl
theorem encAngle : Statement .encAngle := fun _ => rfl
theorem nop : Statement .nop := fun _ => rfl
theorem rsp (st : BitVec 2) (val : Addr) : Statement (.rsp st val) := fun _ => rfl

end Sys2Proof.Laws.FixedLength
end

