-- ==== Sys2Proof/Laws/Step.lean ====
section
/-! SUPPORT. What one step does, by phase and input: one equation per case, and the inversion of a step. -/

namespace Sys2Proof.Machine

/-! ### Decoding what a port brings -/

theorem decode_request (c : Config) (op : OpCode) :
    decode c .req [op.setWidth 8] = .ok (decodeRequest op) := by
  have := op.isLt
  simp [decode]
  omega

theorem decode_response (c : Config) (rx : Frame) :
    decode c .rx (frameBytes rx) = .ok (decodeResponse rx) := by
  simp [decode, frameBytes]

theorem decode_command (c : Config) (w : Frame) :
    decode c .tx (frameBytes w) = decodeCommand c w := by
  simp [decode, frameBytes]

theorem exec_decodeResponse (rx : Frame) (s : State) :
    exec (decodeResponse rx) s = busAnswered (.ok rx) s := by
  simp [decodeResponse, exec_rsp]

/-! ### One step at a clock edge -/

/-- The state in which the effect of a clock edge is computed. -/
abbrev atEdge (rest : List Input) (s : State) : State := (s.setCpl none).setInputs rest

theorem step_of_edge {s : State} {e : Edge} {rest : List Input} (h : s.inputs = .edge e :: rest) :
    step s = act (edgeAction s.cfg s.ph e) (atEdge rest s) := by
  simp [step, h, nextInput, fetch, taken]

theorem step_of_nil {s : State} (h : s.inputs = []) :
    step s = act (edgeAction s.cfg s.ph {}) (atEdge [] s) := by
  simp [step, h, nextInput, fetch, taken]

theorem step_of_form {s : State} {w : Frame} {rest : List Input} (h : s.inputs = .form w :: rest) :
    step s = act (Action.ofDecode (decodeCommand s.cfg w)) (s.setInputs rest) := by
  simp [step, h, nextInput, fetch, taken, decode_command]

theorem act_edge_reset {c : Config} {ph : Phase} {e : Edge} (h : e.rst = true) (s : State) :
    act (edgeAction c ph e) s = exec .reset s := by
  simp [edgeAction, h, decode, Action.ofDecode, act]

theorem act_edge_idle {c : Config} {e : Edge} (h : e.rst = false) (s : State) :
    act (edgeAction c .idle e) s =
      (match e.req with | none => .next s | some op => exec (decodeRequest op) s) := by
  cases hr : e.req <;> simp [edgeAction, h, hr, requestAction, decode_request, Action.ofDecode, act]

theorem act_edge_pin {c : Config} {ph : Phase} {e : Edge} (h : e.rst = false)
    (hp : ph = .cSel ∨ ph = .cDesel ∨ ph = .dSel ∨ ph = .dDesel) (s : State) :
    act (edgeAction c ph e) s = (match e.pin with | none => .next s | some a => pinAnswered a s) := by
  rcases hp with rfl | rfl | rfl | rfl <;> cases hr : e.pin <;> simp [edgeAction, h, hr, pinAction, act]

theorem act_edge_bus {c : Config} {ph : Phase} {e : Edge} (h : e.rst = false)
    (hp : ph = .cXfer ∨ ph = .dXfer) (s : State) :
    act (edgeAction c ph e) s = (match e.bus with | none => .next s | some a => busAnswered a s) := by
  rcases hp with rfl | rfl <;> rcases hr : e.bus with _ | (rx | b) <;>
    simp [edgeAction, h, hr, busAction, act, decode_response, Action.ofDecode, exec_decodeResponse]

theorem act_edge_seven {c : Config} {e : Edge} (h : e.rst = false) (s : State) :
    act (edgeAction c .seven e) s = .fault .phaseSeven := by
  simp [edgeAction, h, act]

/-! ### Inversion -/

/-- The ways an edge can leave a next state (rule R99's table, with reset and waiting): from `s`, in which the
edge has been taken off the inputs, to `t`. -/
inductive EdgeCase (e : Edge) (s : State) : State → Prop where
  | reset (h : e.rst = true) : EdgeCase e s
      { s with ph := .idle, opr := Config.freeOpr s.fresh, rsp := Config.freeRsp s.fresh,
               csl := lineAfterReset s, framed := false, pend := pendAfterReset s, cpl := none,
               events := [], fresh := s.fresh + 1 }
  | wait (h : e.rst = false) (h7 : s.ph ≠ .seven) (hi : s.ph = .idle → e.req = none) : EdgeCase e s s
  | accept (op : OpCode) (h : e.rst = false) (hp : s.ph = .idle) (hr : e.req = some op) (h3 : op ≠ 3) :
      EdgeCase e s { s with opr := op, ph := .cSel, events := .accept op :: s.events }
  | cSel (a : PinAnswer) (h : e.rst = false) (hp : s.ph = .cSel) (ha : e.pin = some a) :
      EdgeCase e s (selectForCommand a s)
  | cXfer (t : Frame) (a : BusAnswer) (h : e.rst = false) (hp : s.ph = .cXfer) (ha : e.bus = some a)
      (ht : commandFrame s.cfg s.opr = some t) : EdgeCase e s (transferCommand t a s)
  | cDesel (a : PinAnswer) (h : e.rst = false) (hp : s.ph = .cDesel) (ha : e.pin = some a) :
      EdgeCase e s (deselectAfterCommand a s)
  | dSel (a : PinAnswer) (h : e.rst = false) (hp : s.ph = .dSel) (ha : e.pin = some a) :
      EdgeCase e s (selectForData a s)
  | dXfer (a : BusAnswer) (h : e.rst = false) (hp : s.ph = .dXfer) (ha : e.bus = some a) :
      EdgeCase e s (transferData a s)
  | done (r : Reading) (h : e.rst = false) (hp : s.ph = .dDesel) (ha : e.pin = some .ok)
      (hr : post s.cfg s.opr s.rsp = some r) : EdgeCase e s (completeRead r s)
  | lost (c : PinCause) (h : e.rst = false) (hp : s.ph = .dDesel) (ha : e.pin = some (.err c)) :
      EdgeCase e s (failFinalDeselect c s)

/-- Inversion of an edge: everything that can lead to a next state. -/
theorem edge_cases {e : Edge} {s t : State} (h : act (edgeAction s.cfg s.ph e) s = .next t) : EdgeCase e s t := by
  by_cases hr : e.rst = true
  · rw [act_edge_reset hr, exec_reset] at h
    obtain rfl := (Host.Outcome.next.injEq _ _).mp h
    exact .reset hr
  replace hr : e.rst = false := by simpa using hr
  cases hp : s.ph with
  | idle =>
    rw [hp, act_edge_idle hr] at h
    cases hq : e.req with
    | none =>
      rw [hq] at h
      obtain rfl := (Host.Outcome.next.injEq _ _).mp h
      exact .wait hr (by simp [hp]) (fun _ => hq)
    | some op =>
      rw [hq] at h
      by_cases h3 : op = 3
      · subst h3; exact absurd h (by simp [decodeRequest, exec, execReserved3])
      · simp only [exec_decodeRequest op h3, accept_idle op s hp] at h
        obtain rfl := (Host.Outcome.next.injEq _ _).mp h
        exact .accept op hr hp hq h3
  | cSel =>
    rw [hp, act_edge_pin hr (by simp)] at h
    cases ha : e.pin with
    | none => rw [ha] at h; obtain rfl := (Host.Outcome.next.injEq _ _).mp h; exact .wait hr (by simp [hp]) (by simp [hp])
    | some a => simp only [ha, pinAnswered, hp] at h; obtain rfl := (Host.Outcome.next.injEq _ _).mp h; exact .cSel a hr hp ha
  | cDesel =>
    rw [hp, act_edge_pin hr (by simp)] at h
    cases ha : e.pin with
    | none => rw [ha] at h; obtain rfl := (Host.Outcome.next.injEq _ _).mp h; exact .wait hr (by simp [hp]) (by simp [hp])
    | some a => simp only [ha, pinAnswered, hp] at h; obtain rfl := (Host.Outcome.next.injEq _ _).mp h; exact .cDesel a hr hp ha
  | dSel =>
    rw [hp, act_edge_pin hr (by simp)] at h
    cases ha : e.pin with
    | none => rw [ha] at h; obtain rfl := (Host.Outcome.next.injEq _ _).mp h; exact .wait hr (by simp [hp]) (by simp [hp])
    | some a => simp only [ha, pinAnswered, hp] at h; obtain rfl := (Host.Outcome.next.injEq _ _).mp h; exact .dSel a hr hp ha
  | dDesel =>
    rw [hp, act_edge_pin hr (by simp)] at h
    rcases ha : e.pin with _ | (_ | c)
    · rw [ha] at h; obtain rfl := (Host.Outcome.next.injEq _ _).mp h; exact .wait hr (by simp [hp]) (by simp [hp])
    · simp only [ha, pinAnswered, hp] at h
      cases hpost : post s.cfg s.opr s.rsp with
      | none => simp [hpost] at h
      | some r => simp only [hpost] at h; obtain rfl := (Host.Outcome.next.injEq _ _).mp h; exact .done r hr hp ha hpost
    · simp only [ha, pinAnswered, hp] at h; obtain rfl := (Host.Outcome.next.injEq _ _).mp h; exact .lost c hr hp ha
  | cXfer =>
    rw [hp, act_edge_bus hr (by simp)] at h
    cases ha : e.bus with
    | none => rw [ha] at h; obtain rfl := (Host.Outcome.next.injEq _ _).mp h; exact .wait hr (by simp [hp]) (by simp [hp])
    | some a =>
      simp only [ha, busAnswered, hp] at h
      cases hc : commandFrame s.cfg s.opr with
      | none => simp [hc] at h
      | some f => simp only [hc] at h; obtain rfl := (Host.Outcome.next.injEq _ _).mp h; exact .cXfer f a hr hp ha hc
  | dXfer =>
    rw [hp, act_edge_bus hr (by simp)] at h
    cases ha : e.bus with
    | none => rw [ha] at h; obtain rfl := (Host.Outcome.next.injEq _ _).mp h; exact .wait hr (by simp [hp]) (by simp [hp])
    | some a => simp only [ha, busAnswered, hp] at h; obtain rfl := (Host.Outcome.next.injEq _ _).mp h; exact .dXfer a hr hp ha
  | seven =>
    rw [hp, act_edge_seven hr] at h
    exact absurd h (by simp)

/-- The ways a step can leave a next state: a clock edge (one with no input once the list is empty), or a line
that forms a frame. -/
theorem step_cases {s t : State} (h : step s = .next t) :
    (∃ e rest, nextInput s.inputs = (.edge e, rest) ∧ EdgeCase e (atEdge rest s) t) ∨
    (∃ w rest f, s.inputs = .form w :: rest ∧ t = { s with inputs := rest, formed := some f }) := by
  rcases hin : s.inputs with _ | ⟨_ | w, rest⟩
  · rw [step_of_nil hin] at h
    exact .inl ⟨{}, [], rfl, edge_cases h⟩
  · rename_i e
    rw [step_of_edge hin] at h
    exact .inl ⟨e, rest, rfl, edge_cases h⟩
  · rw [step_of_form hin] at h
    refine .inr ⟨w, rest, ?_⟩
    unfold decodeCommand at h
    split at h
    · obtain rfl := (Host.Outcome.next.injEq _ _).mp h
      exact ⟨nopFrame, rfl, rfl⟩
    · split at h
      · split at h
        · rename_i r _
          cases r <;> (obtain rfl := (Host.Outcome.next.injEq _ _).mp h; exact ⟨_, rfl, rfl⟩)
        · obtain rfl := (Host.Outcome.next.injEq _ _).mp h
          exact ⟨_, rfl, rfl⟩
      · exact absurd h (by simp [Action.ofDecode, act])

end Sys2Proof.Machine
end

