-- ==== Sys2Proof/Tests/Slice0.lean ====
section
/-! SUPPORT. Tests against the spec's own values (95_test_vectors.md, opcode_table.json), and a witness for the
hypotheses of every statement that has some. -/

namespace Sys2Proof.Tests

open Sys2Proof Sys2Proof.Machine

/-! ### Helpers -/

/-- A small state: phase, operation, line; everything else as after reset. -/
def at_ (ph : Phase) (op : OpCode) (l : Level) : State :=
  { State.reset with ph := ph, opr := op, csl := l }

/-- The same with one edge to come. -/
def before (ph : Phase) (op : OpCode) (l : Level) (e : Edge) : State := (at_ ph op l).setInputs [.edge e]

def stateOf : Host.Outcome State Fault Refusal → Option State
  | .next t => some t
  | .fault _ | .refused _ => none

def faultOf : Host.Outcome State Fault Refusal → Option Fault
  | .fault r => some r
  | .next _ | .refused _ => none

def refusalOf : Host.Outcome State Fault Refusal → Option Refusal
  | .refused r => some r
  | .next _ | .fault _ => none

def p1 : PinCause := ⟨1⟩
def b1 : BusCause := ⟨1⟩

abbrev std : Config := Config.standard

/-! ### Well-formedness refuses each ill-formed form -/

theorem test_wf_reserved_request : wellFormed std .reserved3 = false := by decide
theorem test_wf_odd_parity : wellFormed std (.enc 0 0x0000) = false := by decide
theorem test_wf_mapped_address : wellFormed std (.enc 1 0x3FFF) = false := by decide
theorem test_wf_accepts_corner : wellFormed std (.enc 1 0x0000) = true := by decide

/-! ### Words written out from the table (opcode_table.json), one per constructor -/

theorem test_decode_rddg : decode std .req [0b00000000#8] = .ok .rddg := by decide
theorem test_decode_rdmag : decode std .req [0b00000001#8] = .ok .rdmag := by decide
theorem test_decode_rdang : decode std .req [0b00000010#8] = .ok .rdang := by decide
theorem test_decode_reserved3 : decode std .req [0b00000011#8] = .ok .reserved3 := by decide
theorem test_decode_reset : decode std .rst [0b00000001#8] = .ok .reset := by decide
/-- 2b: a = 0x0000 is 0xC000. -/
theorem test_decode_enc : decode std .tx [0b11000000#8, 0b00000000#8] = .ok (.enc 1 0x0000) := by decide
/-- 2b: a = 0x2AAA is 0x6AAA. -/
theorem test_decode_enc_alternating :
    decode std .tx [0b01101010#8, 0b10101010#8] = .ok (.enc 0 0x2AAA) := by decide
theorem test_decode_encClearErrorFlag :
    decode std .tx [0b01000000#8, 0b00000001#8] = .ok .encClearErrorFlag := by decide
theorem test_decode_encProgrammingControl :
    decode std .tx [0b11000000#8, 0b00000011#8] = .ok .encProgrammingControl := by decide
theorem test_decode_encOtpZeroPosHigh :
    decode std .tx [0b01000000#8, 0b00010110#8] = .ok .encOtpZeroPosHigh := by decide
theorem test_decode_encOtpZeroPosLow :
    decode std .tx [0b11000000#8, 0b00010111#8] = .ok .encOtpZeroPosLow := by decide
theorem test_decode_encDiagAgc : decode std .tx [0b01111111#8, 0b11111101#8] = .ok .encDiagAgc := by decide
theorem test_decode_encMagnitude : decode std .tx [0b01111111#8, 0b11111110#8] = .ok .encMagnitude := by decide
theorem test_decode_encAngle : decode std .tx [0b11111111#8, 0b11111111#8] = .ok .encAngle := by decide
theorem test_decode_nop : decode std .tx [0b00000000#8, 0b00000000#8] = .ok .nop := by decide
theorem test_decode_rsp :
    decode std .rx [0b10111111#8, 0b11111111#8] = .ok (.rsp 0b10 0b11111111111111) := by decide

theorem test_decode_rejects_wide_code : decode std .req [4#8] = .error .codeTooWide := by decide
theorem test_decode_rejects_low_reset : decode std .rst [0#8] = .error .resetNotHigh := by decide
theorem test_decode_rejects_write : decode std .tx [0x3F#8, 0xFE#8] = .error .writeFrame := by decide
theorem test_decode_rejects_length : decode std .rx [0x3F#8] = .error .wrongLength := by decide

theorem test_table_rdang : decodeTableWord 8 2 = some .rdang := by decide
theorem test_table_angle : decodeTableWord 16 0xFFFF = some .encAngle := by decide
theorem test_table_response : decodeTableWord 16 0x9234 = some (.rsp 0b10 0x1234) := by decide

/-! ### Codec (95_test_vectors.md, section 2) -/

theorem test_enc_zero : enc 0x0000 = 0xC000 := by decide
theorem test_enc_low_byte : enc 0x00FF = 0xC0FF := by decide
theorem test_enc_arbitrary : enc 0x1234 = 0x5234 := by decide
theorem test_enc_thirteen_bits : enc 0x3FFC = 0xFFFC := by decide
theorem test_fold_angle_base : fold 0x7FFF = 1 := by decide
theorem test_popcount_angle_base : popcount 0x7FFF#16 = 15 := by decide
theorem test_register_frames : Register.all.map (encr std) =
    [0x4001, 0xC003, 0x4016, 0xC017, 0x7FFD, 0x7FFE, 0xFFFF] := by decide
theorem test_standard_addresses_distinct : Config.standard.wf = true := by decide

/-! ### Post-processing (section 4) -/

theorem test_post_rddg : post std 0 0x1234 = some (.diagGain 0x2 0x34) := by decide
theorem test_post_rddg_prose : post { std with dgSplit := .prose } 0 0x1234 = some (.diagGain 0x4 0x12) := by decide
theorem test_post_rdmag : post std 1 0x2001 = some (.value 0x2001) := by decide
theorem test_post_rdang : post std 2 0xBFFF = some (.value 0x3FFF) := by decide
/-- R156: a corrected literal is one field of the record. -/
theorem test_post_corrected_mask :
    post { std with lits := { Literals.source with valueMask := 0x0FFF } } 2 0xBFFF = some (.value 0x0FFF) := by decide
theorem test_pack_rddg : (Reading.diagGain 0x2 0x34).pack = 0x0234 := by decide

/-! ### The table's instructions, one step each (section 3a) -/

theorem test_step_rdang : stateOf (step (before .idle 0 .inactive { req := some 2 })) =
    some ((at_ .cSel 2 .inactive).setEvents [.accept 2]) := by decide
theorem test_exec_rddg : (stateOf (exec .rddg State.reset)).map (fun t => (t.ph, t.opr)) = some (.cSel, 0) := by
  decide
theorem test_exec_rdmag : (stateOf (exec .rdmag State.reset)).map (fun t => (t.ph, t.opr)) = some (.cSel, 1) := by
  decide
theorem test_step_reserved3 : refusalOf (step (before .idle 0 .inactive { req := some 3 })) =
    some .reservedRequest := by decide
theorem test_step_request_when_busy : stateOf (step (before .cSel 2 .inactive { req := some 1 })) =
    some (at_ .cSel 2 .inactive) := by decide
theorem test_step_reset_wins : (stateOf (step (before .dDesel 2 .active { rst := true, pin := some .ok }))).map
    (fun t => (t.ph, t.csl, t.cpl)) = some (.idle, .unknown, none) := by decide
theorem test_exec_reset_idle : (stateOf (exec .reset (at_ .idle 1 .active))).map (fun t => (t.ph, t.csl)) =
    some (.idle, .inactive) := by decide
theorem test_step_enc : (stateOf (step ((at_ .idle 0 .inactive).setInputs [.form 0xC000]))).map State.formed =
    some (some 0xC000) := by decide
theorem test_exec_encClearErrorFlag :
    (stateOf (exec .encClearErrorFlag State.reset)).map State.formed = some (some 0x4001) := by decide
theorem test_exec_encProgrammingControl :
    (stateOf (exec .encProgrammingControl State.reset)).map State.formed = some (some 0xC003) := by decide
theorem test_exec_encOtpZeroPosHigh :
    (stateOf (exec .encOtpZeroPosHigh State.reset)).map State.formed = some (some 0x4016) := by decide
theorem test_exec_encOtpZeroPosLow :
    (stateOf (exec .encOtpZeroPosLow State.reset)).map State.formed = some (some 0xC017) := by decide
theorem test_exec_encDiagAgc :
    (stateOf (exec .encDiagAgc State.reset)).map State.formed = some (some 0x7FFD) := by decide
theorem test_exec_encMagnitude :
    (stateOf (exec .encMagnitude State.reset)).map State.formed = some (some 0x7FFE) := by decide
theorem test_exec_encAngle :
    (stateOf (exec .encAngle State.reset)).map State.formed = some (some 0xFFFF) := by decide
theorem test_exec_nop : (stateOf (exec .nop State.reset)).map State.formed = some (some 0x0000) := by decide
theorem test_step_rsp_discarded :
    (stateOf (step (before .cXfer 2 .active { bus := some (.ok 0x1234) }))).map
      (fun t => (t.ph, t.rsp, t.csl, t.events)) =
    some (.cDesel, 0, .active, [.busXfer 0xFFFF (.ok 0x1234)]) := by decide
theorem test_step_rsp_captured :
    (stateOf (step (before .dXfer 2 .active { bus := some (.ok 0xBFFF) }))).map
      (fun t => (t.ph, t.rsp, t.csl, t.events)) =
    some (.dDesel, 0xBFFF, .active, [.busXfer 0x0000 (.ok 0xBFFF)]) := by decide

/-! ### The other transitions (section 3a) -/

theorem test_cSel_ok : (stateOf (step (before .cSel 2 .inactive { pin := some .ok }))).map
    (fun t => (t.ph, t.csl, busTx t)) = some (.cXfer, .active, some 0xFFFF) := by decide
theorem test_cSel_err : (stateOf (step (before .cSel 2 .inactive { pin := some (.err p1) }))).map
    (fun t => (t.ph, t.csl, t.cpl)) = some (.idle, .unknown, some (.csErr p1)) := by decide
theorem test_cSel_ignores_bus : stateOf (step (before .cSel 2 .inactive { bus := some (.ok 0x1111) })) =
    some (at_ .cSel 2 .inactive) := by decide
theorem test_cXfer_err : (stateOf (step (before .cXfer 2 .active { bus := some (.err b1) }))).map
    (fun t => (t.ph, t.csl, t.cpl)) = some (.idle, .active, some (.busErr b1)) := by decide
theorem test_cXfer_frame_rddg : busTx (at_ .cXfer 0 .active) = some 0x7FFD := by decide
theorem test_cDesel_ok : (stateOf (step (before .cDesel 2 .active { pin := some .ok }))).map
    (fun t => (t.ph, t.csl, pinReq t, pinLevel t)) = some (.dSel, .inactive, true, 0) := by decide
theorem test_cDesel_err : (stateOf (step (before .cDesel 2 .active { pin := some (.err p1) }))).map
    (fun t => (t.ph, t.csl, t.cpl)) = some (.idle, .unknown, some (.csErr p1)) := by decide
theorem test_dSel_ok : (stateOf (step (before .dSel 2 .inactive { pin := some .ok }))).map
    (fun t => (t.ph, t.csl, busTx t)) = some (.dXfer, .active, some 0x0000) := by decide
theorem test_dXfer_err : (stateOf (step (before .dXfer 2 .active { bus := some (.err b1) }))).map
    (fun t => (t.ph, t.csl, t.rsp, t.cpl)) = some (.idle, .active, 0, some (.busErr b1)) := by decide
/-- Row 20: RDDG with 0x1234 captured. -/
theorem test_dDesel_ok : (stateOf (step ((before .dDesel 0 .active { pin := some .ok }).setRsp 0x1234))).map
    (fun t => (t.ph, t.csl, t.cpl, cplData t)) =
    some (.idle, .inactive, some (.ok (.diagGain 0x2 0x34)), some 0x0234) := by decide
/-- Row 19: the captured frame is not returned. -/
theorem test_dDesel_err : (stateOf (step ((before .dDesel 2 .active { pin := some (.err p1) }).setRsp 0xBFFF))).map
    (fun t => (t.ph, t.csl, t.cpl, cplData t)) =
    some (.idle, .unknown, some (.csErr p1), none) := by decide
theorem test_phase_seven_stuck : faultOf (step (before .seven 0 .inactive {})) = some .phaseSeven := by decide
theorem test_operation_three_stuck : faultOf (step (before .cXfer 3 .active { bus := some (.ok 0) })) =
    some .operationThree := by decide
/-- 60_exceptions.md R128: asserting a line that is ACTIVE already gives the sensor no fresh edge. -/
theorem test_cSel_already_active :
    (stateOf (step (before .cSel 2 .active { pin := some .ok }))).map State.framed = some false ∧
    (stateOf (step (before .cSel 2 .inactive { pin := some .ok }))).map State.framed = some true := by decide
/-- 20_memory.md R49: a framed transfer replaces the sensor's pending request. -/
theorem test_pend_after_framed_command :
    (stateOf (step ((before .cXfer 1 .active { bus := some (.ok 0) }).setFramed true))).map State.pend =
    some (some 0x3FFE) := by decide

/-! ### Placing a table word -/

theorem test_fetch_word_rdmag : (stateOf (step (State.reset.withFetchWord 8 1))).map (fun t => (t.ph, t.opr)) =
    some (.cSel, 1) := by decide
theorem test_fetch_word_enc : (stateOf (step (State.reset.withFetchWord 16 0x4001))).map State.formed =
    some (some 0x4001) := by decide
theorem test_fetch_word_rsp : (stateOf (step (State.reset.withFetchWord 16 0x9234))).map State.rsp =
    some 0x9234 := by decide

/-! ### Witnesses: states and operands that meet the hypotheses of the statements -/

/-- The answers of a successful operation, and of one that fails at its last primitive. -/
def allOk : Script := ⟨.ok, .ok 0x1234, .ok, .ok, .ok 0xFFFF, .ok⟩
def lastFails : Script := ⟨.ok, .ok 0, .ok, .ok, .ok 0x1234, .err p1⟩

def edgesOf (op : OpCode) (sc : Script) : OperationEdges where
  request := { req := some op }
  cSel    := { pin := some sc.cSel }
  cXfer   := { bus := some sc.cXfer }
  cDesel  := { pin := some sc.cDesel }
  dSel    := { pin := some sc.dSel }
  dXfer   := { bus := some sc.dXfer }
  dDesel  := { pin := some sc.dDesel }

theorem test_witness_SingleBitErrorIsDetectable :
    (15 < 16 ∧ 0 < 16 ∧ (0 : Nat) ≠ 15) ∧ popcount (enc 0x3FFF ^^^ BitVec.twoPow 16 15) = 15 ∧
      popcount (enc 0x3FFE ^^^ BitVec.twoPow 16 0 ^^^ BitVec.twoPow 16 1) = 14 := by decide
theorem test_witness_PostProcessing :
    std.lits = .source ∧ std.dgSplit = .scenario ∧
    (let c := { std with dgSplit := .prose }
     c.lits = .source ∧ c.dgSplit = .prose) ∧
    (0x8001#16).extractLsb' 0 14 = (0x4001#16).extractLsb' 0 14 ∧
    (0xF001#16).extractLsb' 0 12 = (0x0001#16).extractLsb' 0 12 := by decide
theorem test_witness_CompletionDataIsMaskedResponse :
    (0 : OpCode) ≠ 3 ∧ (2 : OpCode) ≠ 3 ∧ std.lits = .source ∧ std.dgSplit = .scenario ∧ post std 0 0x8A7F = some (.diagGain 0xA 0x7F) := by decide
theorem test_witness_RequestIsAcceptedWhenIdle : State.reset.ph = .idle := by decide
theorem test_witness_RequestIsIgnoredWhenBusy :
    (at_ .dDesel 2 .active).ph ≠ .idle ∧ (at_ .dDesel 2 .active).ph ≠ .seven := by decide
theorem test_witness_ResetFromIdle : (at_ .idle 1 .active).ph = .idle := by decide
theorem test_witness_ResetDuringOperation :
    (at_ .cXfer 1 .active).ph = .cXfer ∧ (at_ .dXfer 1 .active).ph = .dXfer ∧
    ((at_ .dSel 1 .inactive).ph ≠ .idle ∧ (at_ .dSel 1 .inactive).ph ≠ .cXfer ∧
      (at_ .dSel 1 .inactive).ph ≠ .dXfer) := by decide
theorem test_witness_NopLineFormsZero : (at_ .dXfer 1 .active).ph = .dXfer := by decide
theorem test_witness_ResponseInCommandPhaseIsDiscarded :
    (at_ .cXfer 2 .active).ph = .cXfer ∧ regOf (at_ .cXfer 2 .active).opr = some .angle := by decide
theorem test_witness_ResponseInDataPhaseIsCaptured : (at_ .dXfer 0 .active).ph = .dXfer := by decide
theorem test_witness_ResponseIsIgnoredElsewhere :
    (at_ .idle 0 .active).ph = .idle ∧ (at_ .dDesel 0 .active).ph = .dDesel := by decide

theorem test_witness_AssertForCommandPhase :
    (let s := before .cSel 2 .unknown { pin := some .ok }
     s.ph = .cSel ∧ s.inputs = .edge { pin := some .ok } :: []) ∧
    (let s := before .cSel 2 .active { pin := some (.err p1) }
     s.ph = .cSel ∧ s.inputs = .edge { pin := some (.err p1) } :: []) := by decide
theorem test_witness_TransferCommandFrame :
    (let s := before .cXfer 0 .active { bus := some (.ok 0xFFFF) }
     s.ph = .cXfer ∧ s.inputs = .edge { bus := some (.ok 0xFFFF) } :: [] ∧ regOf s.opr = some .diagAgc) ∧
    (let s := before .cXfer 2 .active { bus := some (.err b1) }
     s.ph = .cXfer ∧ s.inputs = .edge { bus := some (.err b1) } :: [] ∧ regOf s.opr = some .angle) := by decide
theorem test_witness_DeassertAfterCommandPhase :
    (let s := before .cDesel 2 .active { pin := some .ok }
     s.ph = .cDesel ∧ s.inputs = .edge { pin := some .ok } :: []) ∧
    (let s := before .cDesel 2 .active { pin := some (.err p1) }
     s.ph = .cDesel ∧ s.inputs = .edge { pin := some (.err p1) } :: []) := by decide
theorem test_witness_AssertForDataPhase :
    (let s := before .dSel 2 .inactive { pin := some .ok }
     s.ph = .dSel ∧ s.inputs = .edge { pin := some .ok } :: []) ∧
    (let s := before .dSel 2 .inactive { pin := some (.err p1) }
     s.ph = .dSel ∧ s.inputs = .edge { pin := some (.err p1) } :: []) := by decide
theorem test_witness_TransferNopAndCapture :
    (let s := before .dXfer 1 .active { bus := some (.ok 0x4001) }
     s.ph = .dXfer ∧ s.inputs = .edge { bus := some (.ok 0x4001) } :: []) ∧
    (let s := before .dXfer 1 .active { bus := some (.err b1) }
     s.ph = .dXfer ∧ s.inputs = .edge { bus := some (.err b1) } :: []) := by decide
theorem test_witness_DeassertAndComplete :
    (let s := before .dDesel 0 .active { pin := some .ok }
     s.ph = .dDesel ∧ s.inputs = .edge { pin := some .ok } :: [] ∧
       post s.cfg s.opr s.rsp = some (.diagGain 0 0)) ∧
    (let s := before .dDesel 0 .active { pin := some (.err p1) }
     s.ph = .dDesel ∧ s.inputs = .edge { pin := some (.err p1) } :: []) := by decide
theorem test_witness_WaitsWithoutAnswer :
    (let s := before .cSel 2 .inactive { bus := some (.ok 0x1111), req := some 3 }
     let e : Edge := { bus := some (.ok 0x1111), req := some 3 }
     s.inputs = .edge e :: [] ∧ e.rst = false ∧ s.ph ≠ .seven ∧ (s.ph = .idle → e.req = none) ∧
       (pinReq s = true → e.pin = none) ∧ (busReq s = true → e.bus = none)) ∧
    State.reset.inputs = [] ∧ State.reset.ph ≠ .seven := by decide
theorem test_witness_UnansweredOperationHangs :
    (let s := before .cXfer 2 .active { req := some 0 }
     s.ph ≠ .idle ∧ s.ph ≠ .seven ∧ s.cpl = none ∧ s.inputs = [.edge { req := some 0 }]) := by decide
theorem test_witness_ResetWinsOverOtherInputs :
    (let s := before .dDesel 2 .active { rst := true, pin := some .ok, req := some 1 }
     s.inputs = .edge { rst := true, pin := some .ok, req := some 1 } :: []) := by decide
theorem test_witness_RequestAtCompletionIsNotAccepted :
    (let s := before .dDesel 2 .active { pin := some .ok, req := some 1 }
     s.ph = .dDesel ∧ s.opr ≠ 3 ∧ s.inputs = .edge { pin := some .ok, req := some 1 } :: []) := by decide
theorem test_witness_UnreachableCodesStop :
    (before .seven 0 .inactive {}).inputs = [.edge {}] ∧ (before .seven 0 .inactive {}).ph = .seven ∧
    (at_ .seven 0 .inactive).inputs = [] ∧ (at_ .seven 0 .inactive).ph = .seven ∧
    (let s := before .cXfer 3 .active { bus := some (.ok 0) }
     s.opr = 3 ∧ s.ph = .cXfer ∧ s.inputs = [.edge { bus := some (.ok 0) }]) ∧
    (let s := before .dDesel 3 .active { pin := some .ok }
     s.opr = 3 ∧ s.ph = .dDesel ∧ s.inputs = [.edge { pin := some .ok }]) := by decide
theorem test_witness_StepRunsDecodedInstruction :
    (let s := before .idle 0 .inactive { req := some 1 }
     s.inputs = [.edge { req := some 1 }] ∧ s.ph = .idle ∧
       decode s.cfg .req [(1 : OpCode).setWidth 8] = .ok .rdmag) ∧
    (let s := before .cSel 0 .inactive { rst := true }
     s.inputs = [.edge { rst := true }] ∧ decode s.cfg .rst [1] = .ok .reset) ∧
    (let s := before .dXfer 0 .active { bus := some (.ok 0x8001) }
     s.inputs = [.edge { bus := some (.ok 0x8001) }] ∧ s.ph = .dXfer ∧
       decode s.cfg .rx (frameBytes 0x8001) = .ok (.rsp 2 1)) ∧
    (let s := (at_ .idle 0 .inactive).setInputs [.form 0xFFFF]
     s.inputs = [.form 0xFFFF] ∧ decode s.cfg .tx (frameBytes 0xFFFF) = .ok .encAngle) := by decide
theorem test_witness_WriteFrameIsRefused :
    ((at_ .idle 0 .inactive).setInputs [.form 0x8001]).inputs = [.form 0x8001] ∧
      frameRead 0x8001 = false ∧ (0x8001 : Frame) ≠ 0x0000 := by decide
theorem test_witness_DecodeEncodeAgree :
    std.wf = true ∧ wellFormed std (.enc 0 0x2AAA) = true ∧ wellFormed std .encOtpZeroPosLow = true := by decide
theorem test_witness_EncodeDecodeAgree :
    decode std .tx [0x40#8, 0x00#8] = .ok (.enc 0 0x0000) ∧ decode std .req [3#8] = .ok .reserved3 := by decide

/-- A coherent state in the data phase with a step that completes. -/
def finishing : State :=
  { before .dDesel 1 .active { pin := some .ok } with framed := true, pend := some 0, rsp := 0x8001 }

theorem test_witness_StepKeepsCoherence : Coherent finishing ∧ (stateOf (step finishing)).isSome = true := by decide
theorem test_witness_HistoryIsOperationBlocks :
    (let s := (before .cSel 1 .inactive { pin := some .ok }).setEvents [.accept 1]
     Coherent s ∧ HistoryOfBlocks s ∧ (stateOf (step s)).isSome = true) :=
  ⟨by decide, ⟨[], 0, by simp, by decide⟩, by decide⟩
theorem test_witness_BusCarriesOnlyLegalFrames :
    (let s := (before .cXfer 1 .active { bus := some (.ok 0) }).setEvents [.busXfer 0x0000 (.ok 5), .accept 1]
     BusSafe s ∧ (stateOf (step s)).isSome = true) := by decide
theorem test_witness_OneCompletionPerAcceptedRequest :
    (let s := (before .cSel 1 .inactive { pin := some (.err p1) }).setEvents [.accept 1]
     s.events.countP Event.isAccept = s.events.countP Event.isComplete + pendingOps s.ph ∧
       (stateOf (step s)).isSome = true) := by decide
theorem test_witness_ParametersNeverChange : (stateOf (step State.reset)).isSome = true := by decide
theorem test_witness_PhaseAdvancesByOneOrReturnsToIdle :
    (stateOf (step finishing)).map State.ph = some .idle ∧
    (stateOf (step (before .idle 0 .inactive { req := some 0 }))).map State.ph = some .cSel ∧
    (stateOf (step (before .dDesel 0 .active {}))).map State.ph = some .dDesel ∧
    (stateOf (step ((at_ .seven 0 .inactive).setInputs [.form 0]))).map State.ph = some .seven := by decide
theorem test_witness_WhoWritesOprAndRsp :
    (stateOf (step (before .idle 0 .inactive { req := some 1 }))).map State.opr = some 1 ∧
    (stateOf (step (before .dXfer 0 .active { bus := some (.ok 7) }))).map State.rsp = some 7 := by decide
theorem test_witness_CompletionLastsOneEdge :
    finishing.inputs = .edge { pin := some .ok } :: [] ∧ (stateOf (step finishing)).map State.cpl =
      some (some (.ok (.value 1))) := by decide
theorem test_witness_CauseIsPropagatedUnchanged :
    (stateOf (step (before .dXfer 0 .active { bus := some (.err b1) }))).map State.cpl =
      some (some (.busErr b1)) ∧
    (stateOf (step (before .dSel 0 .inactive { pin := some (.err p1) }))).map State.cpl =
      some (some (.csErr p1)) := by decide
theorem test_witness_LineAtCompletionByOutcome :
    Coherent finishing ∧ (stateOf (step finishing)).map (fun t => (t.cpl, t.csl)) =
      some (some (.ok (.value 1)), .inactive) := by decide
theorem test_witness_AtMostOnePrimitiveOutstanding :
    (at_ .dXfer 0 .active).ph ≠ .seven ∧ (at_ .cSel 0 .active).ph ≠ .seven := by decide
theorem test_witness_CompletionPortFields :
    State.reset.cpl = none ∧ (State.reset.setCpl (some (.ok (.value 1)))).cpl = some (.ok (.value 1)) ∧
    (State.reset.setCpl (some (.busErr b1))).cpl = some (.busErr b1) ∧
    (State.reset.setCpl (some (.csErr p1))).cpl = some (.csErr p1) := by decide
theorem test_witness_OperationRefinesBlockingRead :
    (2 : OpCode) ≠ 3 ∧ (edgesOf 2 allOk).carry 2 allOk ∧ (edgesOf 0 lastFails).carry 0 lastFails ∧
    (State.reset.setInputs (edgesOf 2 allOk).inputs).inputs = (edgesOf 2 allOk).inputs ++ [] ∧
    operation std 2 allOk = some (.ok (.value 0x3FFF)) ∧
    operation std 0 lastFails = some (.csErr p1) := by decide
theorem test_witness_PrimitivesByFirstError :
    allOk.dDesel = .ok ∧ lastFails.dDesel = .err p1 ∧ lastFails.dXfer = .ok 0x1234 ∧
    ({ allOk with cSel := .err p1 } : Script).cSel = .err p1 ∧
    ({ allOk with cXfer := .err b1 } : Script).cXfer = .err b1 ∧
    ({ allOk with cDesel := .err p1 } : Script).cDesel = .err p1 ∧
    ({ allOk with dSel := .err p1 } : Script).dSel = .err p1 ∧
    ({ allOk with dXfer := .err b1 } : Script).dXfer = .err b1 := by decide
theorem test_witness_OperationCompletesWithinSixAnswers :
    (let e : Edge := { pin := some .ok, bus := some (.ok 0), req := some 3 }
     let es := [e, e, e, e, e, e]
     let s := (at_ .cSel 2 .unknown).setInputs (es.map Input.edge)
     Coherent s ∧ s.ph ≠ .idle ∧ es.length = 6 ∧
       (∀ e ∈ es, e.rst = false ∧ e.pin.isSome = true ∧ e.bus.isSome = true) ∧
       s.inputs = es.map Input.edge ++ []) := by decide
theorem test_witness_ObedientHostNeverStopsTheBlock :
    (let s := State.reset.setInputs [.edge { req := some 2 }, .form 0x6AAA, .edge { pin := some .ok }]
     Coherent s ∧ ∀ inp ∈ s.inputs, hostInputOk s.cfg inp = true) := by decide
theorem test_witness_CommandPhaseAnswerReachesNothing :
    (at_ .cXfer 2 .active).ph = .cXfer ∧
    (stateOf (Host.Core.run Sys2Proof.core 1 (before .cXfer 2 .active { bus := some (.ok 5) }))).map State.events =
      some [.busXfer 0xFFFF (.ok 5)] := by decide
theorem test_witness_StatusBitsDoNotReachCompletion :
    (let s := at_ .dXfer 0 .active
     s.ph = .dXfer ∧ s.opr ≠ 3 ∧ s.cfg.dgSplit = .scenario ∧
       ({ pin := some .ok } : Edge).pin = some .ok ∧ ({ pin := some .ok } : Edge).rst = false) := by decide
theorem test_witness_PipelinedSensorGivesOwnRegister :
    (let s := State.reset.setInputs (edgesOf 2 allOk).inputs
     s.ph = .idle ∧ s.csl = .inactive ∧ s.cfg.lits = .source ∧ regOf 2 = some .angle ∧ (edgesOf 2 allOk).carry 2 allOk ∧
       allOk.dXfer = .ok 0xFFFF ∧
       (stateOf (Host.Core.run Sys2Proof.core 5 s)).map State.pend = some (some 0x3FFF) ∧
       respVal 0xFFFF = (fun _ : Addr => (0x3FFF : Addr)) 0x3FFF ∧
       operation s.cfg 2 allOk = some (.ok (.value 0x3FFF))) := by decide
theorem test_witness_PendingRequestAfterSuccessIsTheNop :
    Coherent finishing ∧ (stateOf (step finishing)).map State.cpl = some (some (.ok (.value 1))) := by decide
/-- A transfer and the last deassertion that fail, the sensor's pending request known before (R158). -/
theorem test_witness_PendingRequestAfterFailureIsUnknown :
    (let s := before .dXfer 2 .active { bus := some (.err b1) }
     (stateOf (step (s.setPend (some 0x3FFF)))).map (fun t => (t.cpl, t.pend)) = some (some (.busErr b1), none)) ∧
    (let s := before .dDesel 2 .active { pin := some (.err p1) }
     (stateOf (step (s.setPend (some 0)))).map (fun t => (t.cpl, t.pend)) = some (some (.csErr p1), none)) := by
  decide

end Sys2Proof.Tests
end

section
/-! PROOFS. The Register Map under the default parameters: its frames and the distinctness of its addresses
(R6, R70, R88). -/

namespace Sys2Proof

/-- R70, R88: the frames in selector order. The base `{0, 1, a}` gains bit 15 exactly where its parity is odd:
ProgrammingControl, OTP zero-position low and Angle. -/
theorem map_encr_standard : Register.all.map (encr Config.standard) =
    [0x4001#16, 0xC003#16, 0x4016#16, 0xC017#16, 0x7FFD#16, 0x7FFE#16, 0xFFFF#16] := by
  decide

/-- R6: the default addresses meet the constraint on the parameters. -/
@[simp] theorem standard_wf : Config.standard.wf = true := by
  decide

/-- Settles O6: the seven frames by evaluating the encoder, and the constraint of R6 on the same addresses. -/
theorem framesOfTheRegisterMap : Obligations.FramesOfTheRegisterMap :=
  ⟨map_encr_standard, standard_wf⟩

end Sys2Proof
end

section
/-! PROOFS. Coherence by phase: what `Coherent` says of a state in each phase, and that every transition keeps it
(R21, R22, R25, R49). -/

namespace Sys2Proof.Machine

/-! ### What coherence says, phase by phase -/

theorem coherent_of_idle {s : State} (h : s.ph = .idle) : Coherent s := by
  simp [Coherent, h, lineFits, framedFits, pendFits]

theorem coherent_cSel {s : State} (h : s.ph = .cSel) : Coherent s ↔ s.opr ≠ 3 := by
  simp [Coherent, h, lineFits, framedFits, pendFits]

theorem coherent_cXfer {s : State} (h : s.ph = .cXfer) : Coherent s ↔ s.opr ≠ 3 ∧ s.csl = .active := by
  simp [Coherent, h, lineFits, framedFits, pendFits]

theorem coherent_cDesel {s : State} (h : s.ph = .cDesel) : Coherent s ↔
    s.opr ≠ 3 ∧ s.csl = .active ∧ (s.pend = none ∨ s.pend = (regOf s.opr).map s.cfg.addr) := by
  simp [Coherent, h, lineFits, framedFits, pendFits]

theorem coherent_dSel {s : State} (h : s.ph = .dSel) : Coherent s ↔
    s.opr ≠ 3 ∧ s.csl = .inactive ∧ (s.pend = none ∨ s.pend = (regOf s.opr).map s.cfg.addr) := by
  simp [Coherent, h, lineFits, framedFits, pendFits]

theorem coherent_dXfer {s : State} (h : s.ph = .dXfer) : Coherent s ↔
    s.opr ≠ 3 ∧ s.csl = .active ∧ s.framed = true ∧
      (s.pend = none ∨ s.pend = (regOf s.opr).map s.cfg.addr) := by
  simp [Coherent, h, lineFits, framedFits, pendFits]

theorem coherent_dDesel {s : State} (h : s.ph = .dDesel) : Coherent s ↔
    s.opr ≠ 3 ∧ s.csl = .active ∧ s.framed = true ∧ s.pend = some 0 := by
  simp [Coherent, h, lineFits, framedFits, pendFits]

/-! ### The transitions -/

/-- The address bits of the command frame are the address of the operation's register (R61, R93). -/
theorem frameAddr_of_commandFrame {c : Config} {op : OpCode} {t : Frame} (h : commandFrame c op = some t) :
    some (frameAddr t) = (regOf op).map c.addr := by
  obtain ⟨r, hr, rfl⟩ := Option.map_eq_some_iff.mp h
  simp [hr, encr, enc_addr]

theorem selectForCommand_coherent {s : State} (hp : s.ph = .cSel) (hc : Coherent s) (a : PinAnswer) :
    Coherent (selectForCommand a s) := by
  cases a with
  | ok => exact (coherent_cXfer rfl).mpr ⟨(coherent_cSel hp).mp hc, rfl⟩
  | err c => exact coherent_of_idle rfl

theorem transferCommand_coherent {s : State} {t : Frame} (hp : s.ph = .cXfer) (hc : Coherent s)
    (ht : commandFrame s.cfg s.opr = some t) (a : BusAnswer) : Coherent (transferCommand t a s) := by
  cases a with
  | ok rx =>
    obtain ⟨hopr, hcsl⟩ := (coherent_cXfer hp).mp hc
    refine (coherent_cDesel rfl).mpr ⟨hopr, hcsl, ?_⟩
    rw [transferCommand_ok]
    cases s.framed with
    | false => exact .inl rfl
    | true => exact .inr (frameAddr_of_commandFrame ht)
  | err c => exact coherent_of_idle rfl

theorem deselectAfterCommand_coherent {s : State} (hp : s.ph = .cDesel) (hc : Coherent s) (a : PinAnswer) :
    Coherent (deselectAfterCommand a s) := by
  cases a with
  | ok =>
    obtain ⟨hopr, -, hpend⟩ := (coherent_cDesel hp).mp hc
    exact (coherent_dSel rfl).mpr ⟨hopr, rfl, hpend⟩
  | err c => exact coherent_of_idle rfl

/-- The line was INACTIVE before the data phase asserts it, so the sensor sees a fresh edge (R52). -/
theorem selectForData_coherent {s : State} (hp : s.ph = .dSel) (hc : Coherent s) (a : PinAnswer) :
    Coherent (selectForData a s) := by
  cases a with
  | ok =>
    obtain ⟨hopr, hcsl, hpend⟩ := (coherent_dSel hp).mp hc
    have hframed : (selectForData .ok s).framed = true := by simp [selectForData_ok, hcsl]
    exact (coherent_dXfer rfl).mpr ⟨hopr, rfl, hframed, hpend⟩
  | err c => exact coherent_of_idle rfl

/-- The data phase's transfer follows a fresh edge, so the nop's address becomes the pending request (R49). -/
theorem transferData_coherent {s : State} (hp : s.ph = .dXfer) (hc : Coherent s) (a : BusAnswer) :
    Coherent (transferData a s) := by
  cases a with
  | ok rx =>
    obtain ⟨hopr, hcsl, hframed, -⟩ := (coherent_dXfer hp).mp hc
    have hpend : (transferData (.ok rx) s).pend = some 0 := by
      simp [transferData_ok, hframed, frameAddr, nopFrame]
    exact (coherent_dDesel rfl).mpr ⟨hopr, hcsl, hframed, hpend⟩
  | err c => exact coherent_of_idle rfl

/-- Every way an edge can leave a next state keeps coherence: reset, a completion and an error end in IDLE, where
nothing is claimed, and an `Ok` establishes what the next phase asks for. -/
theorem EdgeCase.coherent {e : Edge} {s t : State} (h : EdgeCase e s t) (hc : Coherent s) : Coherent t := by
  cases h with
  | reset => exact coherent_of_idle rfl
  | wait => exact hc
  | accept op _ _ _ h3 => exact (coherent_cSel rfl).mpr h3
  | cSel a _ hp => exact selectForCommand_coherent hp hc a
  | cXfer f a _ hp _ hf => exact transferCommand_coherent hp hc hf a
  | cDesel a _ hp => exact deselectAfterCommand_coherent hp hc a
  | dSel a _ hp => exact selectForData_coherent hp hc a
  | dXfer a _ hp => exact transferData_coherent hp hc a
  | done => exact coherent_of_idle rfl
  | lost => exact coherent_of_idle rfl

/-- Settles O38, by the inversion of a step: a clock edge keeps coherence in each of its cases, and taking an input
off the list or forming a frame changes no field that coherence reads. -/
theorem stepKeepsCoherence : Obligations.StepKeepsCoherence := by
  intro s t hc h
  rcases step_cases h with ⟨e, rest, -, he⟩ | ⟨w, rest, f, -, rfl⟩
  · exact he.coherent (s := atEdge rest s) hc
  · exact hc

/-- Settles O37: PH is IDLE in the state after reset. -/
theorem resetIsCoherent : Obligations.ResetIsCoherent :=
  coherent_of_idle rfl

end Sys2Proof.Machine
end

section
/-! PROOFS. The five effects of a clock edge on phase, latches, completion port and history (R91 to R98, R140), and
the invariants read off them: the parameters, the order of the phases, who writes OPR and RSP, and the count of
acceptances and completions. -/

namespace Sys2Proof.Machine

/-- The phase that follows within an operation when its primitive is answered `Ok` (R92 to R96): none where no
operation goes on. -/
def Phase.next? : Phase → Option Phase
  | .cSel   => some .cXfer
  | .cXfer  => some .cDesel
  | .cDesel => some .dSel
  | .dSel   => some .dXfer
  | .dXfer  => some .dDesel
  | .idle | .dDesel | .seven => none

theorem Phase.next?_code {p q : Phase} (h : p.next? = some q) : q.code.toNat = p.code.toNat + 1 := by
  cases p <;> cases h <;> rfl

theorem Phase.next?_ends {p q : Phase} (h : p.next? = some q) :
    p ≠ .idle ∧ p ≠ .dDesel ∧ q ≠ .idle ∧ q ≠ .seven := by
  cases p <;> cases h <;> decide

/-- What an edge does to the block, by kind: the ten cases of `EdgeCase` without the line and the sensor. `prim` is
the primitive answered at the edge. -/
inductive EdgeEffect (e : Edge) (s t : State) : Prop where
  | reset (rst : e.rst = true) (ph : t.ph = .idle) (cpl : t.cpl = none) (events : t.events = [])
  | wait (eq : t = s)
  | accept (idle : s.ph = .idle) (ph : t.ph = .cSel) (req : e.req = some t.opr) (rsp : t.rsp = s.rsp)
      (cpl : t.cpl = s.cpl) (events : t.events = .accept t.opr :: s.events)
  | advance (prim : Event) (noAccept : prim.isAccept = false) (noComplete : prim.isComplete = false)
      (goesOn : s.ph.next? = some t.ph) (opr : t.opr = s.opr)
      (rsp : t.rsp = s.rsp ∨ (s.ph = .dXfer ∧ e.bus = some (.ok t.rsp) ∧ t.ph = .dDesel))
      (cpl : t.cpl = s.cpl) (events : t.events = prim :: s.events)
  | finish (prim : Event) (c : Completion) (noAccept : prim.isAccept = false)
      (noComplete : prim.isComplete = false) (busy : s.ph ≠ .idle) (ph : t.ph = .idle) (opr : t.opr = s.opr)
      (rsp : t.rsp = s.rsp) (cpl : t.cpl = some c) (events : t.events = .complete c :: prim :: s.events)

/-- Each transition has its kind: an `Ok` before D_DESEL advances, any other answer finishes. -/
theorem EdgeCase.effect {e : Edge} {s t : State} (h : EdgeCase e s t) : EdgeEffect e s t := by
  have busy {p : Phase} (hp : s.ph = p) (hne : p ≠ .idle) : s.ph ≠ .idle := hp ▸ hne
  have goesOn {p : Phase} (hp : s.ph = p) : s.ph.next? = p.next? := congrArg _ hp
  cases h with
  | reset hr => exact .reset hr rfl rfl rfl
  | wait => exact .wait rfl
  | accept op _ hp hq => exact .accept hp rfl hq rfl rfl rfl
  | cSel a _ hp =>
    cases a with
    | ok => exact .advance (.pinSet .active .ok) rfl rfl (goesOn hp) rfl (.inl rfl) rfl rfl
    | err c =>
      exact .finish (.pinSet .active (.err c)) (.csErr c) rfl rfl (busy hp (by decide)) rfl rfl rfl rfl rfl
  | cXfer f a _ hp =>
    cases a with
    | ok rx => exact .advance (.busXfer f (.ok rx)) rfl rfl (goesOn hp) rfl (.inl rfl) rfl rfl
    | err c => exact .finish (.busXfer f (.err c)) (.busErr c) rfl rfl (busy hp (by decide)) rfl rfl rfl rfl rfl
  | cDesel a _ hp =>
    cases a with
    | ok => exact .advance (.pinSet .inactive .ok) rfl rfl (goesOn hp) rfl (.inl rfl) rfl rfl
    | err c =>
      exact .finish (.pinSet .inactive (.err c)) (.csErr c) rfl rfl (busy hp (by decide)) rfl rfl rfl rfl rfl
  | dSel a _ hp =>
    cases a with
    | ok => exact .advance (.pinSet .active .ok) rfl rfl (goesOn hp) rfl (.inl rfl) rfl rfl
    | err c =>
      exact .finish (.pinSet .active (.err c)) (.csErr c) rfl rfl (busy hp (by decide)) rfl rfl rfl rfl rfl
  | dXfer a _ hp ha =>
    cases a with
    | ok rx => exact .advance (.busXfer nopFrame (.ok rx)) rfl rfl (goesOn hp) rfl (.inr ⟨hp, ha, rfl⟩) rfl rfl
    | err c =>
      exact .finish (.busXfer nopFrame (.err c)) (.busErr c) rfl rfl (busy hp (by decide)) rfl rfl rfl rfl rfl
  | done r _ hp =>
    exact .finish (.pinSet .inactive .ok) (.ok r) rfl rfl (busy hp (by decide)) rfl rfl rfl rfl rfl
  | lost c _ hp =>
    exact .finish (.pinSet .inactive (.err c)) (.csErr c) rfl rfl (busy hp (by decide)) rfl rfl rfl rfl rfl

/-- The inversion of a step whose next input is known to be a clock edge. -/
theorem edgeCase_of_step {s t : State} {e : Edge} {rest : List Input} (hin : s.inputs = .edge e :: rest)
    (h : step s = .next t) : EdgeCase e (atEdge rest s) t := by
  rw [step_of_edge hin] at h
  exact edge_cases h

/-! ### The parameters -/

theorem EdgeCase.cfg_eq {e : Edge} {s t : State} (h : EdgeCase e s t) : t.cfg = s.cfg := by
  cases h with
  | reset | wait | accept | done | lost => rfl
  | cSel a | cXfer _ a | cDesel a | dSel a | dXfer a => cases a <;> rfl

/-- Settles O43: no case of a clock edge writes the record, and forming a frame does not. -/
theorem parametersNeverChange : Obligations.ParametersNeverChange := by
  intro s t h
  rcases step_cases h with ⟨e, rest, -, he⟩ | ⟨w, rest, f, -, rfl⟩
  · exact he.cfg_eq
  · rfl

/-! ### The count of acceptances and completions -/

/-- Every acceptance of the history has had its completion, except that of the operation in progress (R28). -/
def InStep (s : State) : Prop :=
  s.events.countP Event.isAccept = s.events.countP Event.isComplete + pendingOps s.ph

@[simp] theorem pendingOps_idle : pendingOps .idle = 0 := rfl

theorem pendingOps_busy {p : Phase} (h : p ≠ .idle) : pendingOps p = 1 := if_neg h

@[simp] theorem isAccept_accept (op : OpCode) : (Event.accept op).isAccept = true := rfl
@[simp] theorem isComplete_accept (op : OpCode) : (Event.accept op).isComplete = false := rfl
@[simp] theorem isAccept_complete (c : Completion) : (Event.complete c).isAccept = false := rfl
@[simp] theorem isComplete_complete (c : Completion) : (Event.complete c).isComplete = true := rfl

/-- An acceptance adds one to the acceptances and to the operations in progress; a completion moves the operation in
progress over to the completions; a primitive alone counts as neither. -/
theorem EdgeEffect.inStep {e : Edge} {s t : State} (h : EdgeEffect e s t) (hs : InStep s) : InStep t := by
  unfold InStep at hs ⊢
  cases h with
  | reset _ ph _ events => simp [ph, events]
  | wait eq => rwa [eq]
  | accept idle ph _ _ _ events =>
    rw [idle, pendingOps_idle] at hs
    simp [List.countP_cons, events, ph, pendingOps_busy, hs]
  | advance prim noAccept noComplete goesOn _ _ _ events =>
    obtain ⟨hs_busy, -, ht_busy, -⟩ := Phase.next?_ends goesOn
    rw [pendingOps_busy hs_busy] at hs
    simp [events, noAccept, noComplete, pendingOps_busy ht_busy, hs]
  | finish prim c noAccept noComplete busy ph _ _ _ events =>
    rw [pendingOps_busy busy] at hs
    simp [List.countP_cons, events, noAccept, noComplete, ph, hs]

/-- Settles O42, by the effects of a clock edge; a frame line leaves history and phase alone. -/
theorem oneCompletionPerAcceptedRequest : Obligations.OneCompletionPerAcceptedRequest := by
  intro s t hs h
  rcases step_cases h with ⟨e, rest, -, he⟩ | ⟨w, rest, f, -, rfl⟩
  · exact he.effect.inStep (s := atEdge rest s) hs
  · exact hs

/-! ### The order of the phases -/

theorem EdgeEffect.phase {e : Edge} {s t : State} (h : EdgeEffect e s t) :
    (t.ph = s.ph ∨ t.ph = .idle ∨ t.ph.code.toNat = s.ph.code.toNat + 1) ∧
      (t.ph = .seven → s.ph = .seven) ∧ (s.ph = .dDesel → t.ph = .dDesel ∨ t.ph = .idle) := by
  cases h with
  | reset _ ph => simp [ph]
  | wait eq => subst eq; exact ⟨.inl rfl, id, .inl⟩
  | accept idle ph => simp [ph, idle, Phase.code]
  | advance _ _ _ goesOn =>
    obtain ⟨-, hlast, -, hseven⟩ := Phase.next?_ends goesOn
    exact ⟨.inr (.inr (Phase.next?_code goesOn)), (absurd · hseven), (absurd · hlast)⟩
  | finish _ _ _ _ _ ph => simp [ph]

/-- Settles O44, by the effects of a clock edge; a frame line leaves PH alone. -/
theorem phaseAdvancesByOneOrReturnsToIdle : Obligations.PhaseAdvancesByOneOrReturnsToIdle := by
  intro s t h
  rcases step_cases h with ⟨e, rest, -, he⟩ | ⟨w, rest, f, -, rfl⟩
  · exact he.effect.phase
  · exact ⟨.inl rfl, id, .inl⟩

/-! ### The latches and the completion port -/

/-- Settles O45, by the effects of a clock edge without reset. -/
theorem whoWritesOprAndRsp : Obligations.WhoWritesOprAndRsp := by
  intro s t e rest hin hrst h
  cases (edgeCase_of_step hin h).effect with
  | reset rst => simp [hrst] at rst
  | wait eq => subst eq; exact ⟨.inl rfl, .inl rfl⟩
  | accept idle ph req rsp => exact ⟨.inr ⟨idle, req, ph⟩, .inl rsp⟩
  | advance _ _ _ _ opr rsp => exact ⟨.inl opr, rsp⟩
  | finish _ _ _ _ _ _ opr rsp => exact ⟨.inl opr, .inl rsp⟩

/-- Settles O46: the edge clears the port, and only a finishing answer drives it again, with the completion it puts
on the history. -/
theorem completionLastsOneEdge : Obligations.CompletionLastsOneEdge := by
  intro s t e rest hin h
  cases (edgeCase_of_step hin h).effect with
  | reset _ _ cpl => exact .inl cpl
  | wait eq => subst eq; exact .inl rfl
  | accept _ _ _ _ cpl => exact .inl cpl
  | advance _ _ _ _ _ _ cpl => exact .inl cpl
  | finish prim c _ _ busy ph _ _ cpl events => exact .inr ⟨c, prim :: s.events, cpl, busy, ph, events⟩

end Sys2Proof.Machine
end

section
/-! PROOFS. What is ignored, what stops, and what the ports drive: requests while busy (R30, R149), the codes no rule
writes (R21, R30, R110), the output lines by phase and the completion port (R26 to R28, R34, R69, R123). -/

namespace Sys2Proof.Machine

/-! ### Requests while busy -/

/-- Outside IDLE no port but the phase's own is sampled (R30, R98). -/
theorem edgeAction_req_of_busy {c : Config} {ph : Phase} (h : ph ≠ .idle) (e : Edge) (r : Option OpCode) :
    edgeAction c ph { e with req := r } = edgeAction c ph e := by
  cases ph with
  | idle => exact absurd rfl h
  | cSel | cXfer | cDesel | dSel | dXfer | dDesel | seven => rfl

/-- Settles O13: the acceptance leaves a busy state alone, and a busy phase does not sample the request input. -/
theorem requestIsIgnoredWhenBusy : Obligations.RequestIsIgnoredWhenBusy := by
  refine ⟨fun s i hb h7 hi => ?_, fun s e rest r hb => ?_⟩
  · rcases hi with rfl | rfl | rfl <;> exact accept_busy _ s hb h7
  · rw [step_of_edge rfl, step_of_edge rfl]
    exact congrArg (act · (atEdge rest s)) (edgeAction_req_of_busy hb e r)

/-! ### The codes no rule writes -/

theorem accept_seven {s : State} (h : s.ph = .seven) (op : OpCode) : accept op s = .fault .phaseSeven := by
  simp [accept, h]

theorem busAnswered_seven {s : State} (h : s.ph = .seven) (a : BusAnswer) :
    busAnswered a s = .fault .phaseSeven := by
  simp [busAnswered, h]

/-- C_XFER has no command frame to send for the reserved code (R36, R93). -/
theorem busAnswered_cXfer_three {s : State} (hp : s.ph = .cXfer) (h3 : s.opr = 3) (a : BusAnswer) :
    busAnswered a s = .fault .operationThree := by
  have ht : commandFrame s.cfg s.opr = none := by rw [h3]; rfl
  simp [busAnswered, hp, ht]

/-- D_DESEL has no POST for the reserved code (R110). -/
theorem pinAnswered_dDesel_three {s : State} (hp : s.ph = .dDesel) (h3 : s.opr = 3) :
    pinAnswered .ok s = .fault .operationThree := by
  have hr : post s.cfg s.opr s.rsp = none := by rw [h3]; exact post_three s.cfg s.rsp
  simp [pinAnswered, hp, hr]

/-- Settles O31, by the equation of a step for its phase and that of the answer there. -/
theorem unreachableCodesStop : Obligations.UnreachableCodesStop := by
  refine ⟨fun s e rest hp hin hr => ?_, fun s hp hin => ?_, fun s st val hp => ?_, fun s e rest h3 hin hr => ?_⟩
  · rw [step_of_edge hin, hp, act_edge_seven hr]
  · rw [step_of_nil hin, hp, act_edge_seven rfl]
  · exact ⟨accept_seven hp 0, accept_seven hp 1, accept_seven hp 2, busAnswered_seven hp _⟩
  · refine ⟨fun hp hb => ?_, fun hp ha => ?_⟩
    · obtain ⟨a, ha⟩ := Option.isSome_iff_exists.mp hb
      rw [step_of_edge hin, hp, act_edge_bus hr (.inl rfl), ha]
      exact busAnswered_cXfer_three (s := atEdge rest s) hp h3 a
    · rw [step_of_edge hin, hp, act_edge_pin hr (by simp), ha]
      exact pinAnswered_dDesel_three (s := atEdge rest s) hp h3

/-! ### The output lines -/

/-- Settles O17, by evaluating the state after reset and its ports. -/
theorem stateAfterReset : Obligations.StateAfterReset :=
  ⟨rfl, rfl, rfl, rfl, rfl, rfl, rfl, rfl⟩

/-- Settles O49, by reading the lines off each phase. -/
theorem atMostOnePrimitiveOutstanding : Obligations.AtMostOnePrimitiveOutstanding := by
  intro s h7
  cases hp : s.ph with
  | seven => exact absurd hp h7
  | idle | cSel | cXfer | cDesel | dSel | dXfer | dDesel => simp [reqReady, pinReq, busReq, pinLevel, hp]

/-! ### The completion port -/

/-- Settles O58, by what the port drives: nothing, or one of the three completions. -/
theorem completionPortFields : Obligations.CompletionPortFields := by
  intro s
  unfold cplValid cplStatus cplCause cplData
  cases hc : s.cpl with
  | none => simp
  | some c =>
    cases c with
    | ok | busErr | csErr => simp [Completion.status, Completion.cause, Completion.data]

end Sys2Proof.Machine
end

section
/-! PROOFS. The history as operation blocks (R47, R48, R56): an answered primitive extends the block in progress, and
the answer that ends the operation closes it as a finished block. -/

namespace Sys2Proof.Machine

/-! ### Extending and closing the block in progress -/

/-- The block of the operation in progress in state `s`, `rxc` being what the command phase's transfer clocked back. -/
def State.openBlock (s : State) (rxc : Frame) : List Event :=
  Machine.openBlock s.ph s.opr ((commandFrame s.cfg s.opr).getD nopFrame) rxc s.rsp

theorem historyOfBlocks_iff {s : State} : HistoryOfBlocks s ↔
    ∃ (done : List (OpCode × Script)) (rxc : Frame), (∀ d ∈ done, d.1 ≠ 3) ∧
      s.history = done.flatMap (fun d => operationBlock s.cfg d.1 d.2) ++ s.openBlock rxc := Iff.rfl

theorem historyOfBlocks_of_empty {s : State} (hp : s.ph = .idle) (he : s.events = []) : HistoryOfBlocks s :=
  historyOfBlocks_iff.mpr ⟨[], 0, by simp, by simp [State.history, he, State.openBlock, openBlock, hp]⟩

theorem history_of_events_append {s t : State} {new : List Event} (h : t.events = new.reverse ++ s.events) :
    t.history = s.history ++ new := by
  simp [State.history, h]

/-- Events that extend the open block: the finished blocks stay as they are. -/
theorem HistoryOfBlocks.extend {s t : State} (hs : HistoryOfBlocks s) (new : List Event) (hcfg : t.cfg = s.cfg)
    (hev : t.events = new.reverse ++ s.events)
    (hopen : ∀ rxc, ∃ rxc', t.openBlock rxc' = s.openBlock rxc ++ new) : HistoryOfBlocks t := by
  obtain ⟨done, rxc, hdone, hist⟩ := historyOfBlocks_iff.mp hs
  obtain ⟨rxc', hrxc'⟩ := hopen rxc
  refine historyOfBlocks_iff.mpr ⟨done, rxc', hdone, ?_⟩
  rw [history_of_events_append hev, hist, hcfg, hrxc', List.append_assoc]

/-- Events that complete the open block to that of a finished operation: it joins the finished blocks, and in IDLE
nothing is open. -/
theorem HistoryOfBlocks.close {s t : State} (hs : HistoryOfBlocks s) (new : List Event) (hopr : s.opr ≠ 3)
    (hcfg : t.cfg = s.cfg) (hp : t.ph = .idle) (hev : t.events = new.reverse ++ s.events)
    (hblock : ∀ rxc, ∃ sc, operationBlock s.cfg s.opr sc = s.openBlock rxc ++ new) : HistoryOfBlocks t := by
  obtain ⟨done, rxc, hdone, hist⟩ := historyOfBlocks_iff.mp hs
  obtain ⟨sc, hsc⟩ := hblock rxc
  have hnew : ∀ d ∈ done ++ [(s.opr, sc)], d.1 ≠ 3 := by
    intro d hd
    rcases List.mem_append.mp hd with hd | hd
    · exact hdone d hd
    · rwa [List.mem_singleton.mp hd]
  refine historyOfBlocks_iff.mpr ⟨done ++ [(s.opr, sc)], 0, hnew, ?_⟩
  have hclosed : t.openBlock 0 = [] := by simp [State.openBlock, openBlock, hp]
  rw [history_of_events_append hev, hist, hcfg, hclosed]
  simp [hsc]

/-! ### The transitions -/

/-- The script in which every primitive is answered `Ok`, with the bits clocked back in the two transfers. -/
def Script.allOk (rxc rxd : Frame) : Script := ⟨.ok, .ok rxc, .ok, .ok, .ok rxd, .ok⟩

theorem openBlock_at {s : State} {p : Phase} (hp : s.ph = p) (rxc : Frame) :
    s.openBlock rxc = Machine.openBlock p s.opr ((commandFrame s.cfg s.opr).getD nopFrame) rxc s.rsp := by
  rw [State.openBlock, hp]

theorem accept_historyOfBlocks {s : State} (hp : s.ph = .idle) (hs : HistoryOfBlocks s) (op : OpCode) :
    HistoryOfBlocks { s with opr := op, ph := .cSel, events := .accept op :: s.events } :=
  hs.extend [.accept op] rfl rfl fun rxc => ⟨rxc, by rw [openBlock_at hp]; rfl⟩

theorem selectForCommand_historyOfBlocks {s : State} (hp : s.ph = .cSel) (hopr : s.opr ≠ 3)
    (hs : HistoryOfBlocks s) (a : PinAnswer) : HistoryOfBlocks (selectForCommand a s) := by
  cases a with
  | ok => exact hs.extend [.pinSet .active .ok] rfl rfl fun rxc => ⟨rxc, by rw [openBlock_at hp]; rfl⟩
  | err c =>
    exact hs.close [.pinSet .active (.err c), .complete (.csErr c)] hopr rfl rfl rfl fun rxc =>
      ⟨{ Script.allOk rxc s.rsp with cSel := .err c }, by rw [openBlock_at hp]; rfl⟩

/-- The bits the command frame's transfer clocks back become those of the open block. -/
theorem transferCommand_historyOfBlocks {s : State} {f : Frame} (hp : s.ph = .cXfer) (hopr : s.opr ≠ 3)
    (hf : commandFrame s.cfg s.opr = some f) (hs : HistoryOfBlocks s) (a : BusAnswer) :
    HistoryOfBlocks (transferCommand f a s) := by
  have hframe : f = (commandFrame s.cfg s.opr).getD nopFrame := by simp [hf]
  cases a with
  | ok rx =>
    exact hs.extend [.busXfer f (.ok rx)] rfl rfl fun rxc => ⟨rx, by rw [openBlock_at hp, hframe]; rfl⟩
  | err c =>
    exact hs.close [.busXfer f (.err c), .complete (.busErr c)] hopr rfl rfl rfl fun rxc =>
      ⟨{ Script.allOk rxc s.rsp with cXfer := .err c }, by rw [openBlock_at hp, hframe]; rfl⟩

theorem deselectAfterCommand_historyOfBlocks {s : State} (hp : s.ph = .cDesel) (hopr : s.opr ≠ 3)
    (hs : HistoryOfBlocks s) (a : PinAnswer) : HistoryOfBlocks (deselectAfterCommand a s) := by
  cases a with
  | ok => exact hs.extend [.pinSet .inactive .ok] rfl rfl fun rxc => ⟨rxc, by rw [openBlock_at hp]; rfl⟩
  | err c =>
    exact hs.close [.pinSet .inactive (.err c), .complete (.csErr c)] hopr rfl rfl rfl fun rxc =>
      ⟨{ Script.allOk rxc s.rsp with cDesel := .err c }, by rw [openBlock_at hp]; rfl⟩

theorem selectForData_historyOfBlocks {s : State} (hp : s.ph = .dSel) (hopr : s.opr ≠ 3)
    (hs : HistoryOfBlocks s) (a : PinAnswer) : HistoryOfBlocks (selectForData a s) := by
  cases a with
  | ok => exact hs.extend [.pinSet .active .ok] rfl rfl fun rxc => ⟨rxc, by rw [openBlock_at hp]; rfl⟩
  | err c =>
    exact hs.close [.pinSet .active (.err c), .complete (.csErr c)] hopr rfl rfl rfl fun rxc =>
      ⟨{ Script.allOk rxc s.rsp with dSel := .err c }, by rw [openBlock_at hp]; rfl⟩

/-- The bits the nop's transfer clocks back are those RSP captures (R96). -/
theorem transferData_historyOfBlocks {s : State} (hp : s.ph = .dXfer) (hopr : s.opr ≠ 3)
    (hs : HistoryOfBlocks s) (a : BusAnswer) : HistoryOfBlocks (transferData a s) := by
  cases a with
  | ok rx => exact hs.extend [.busXfer nopFrame (.ok rx)] rfl rfl fun rxc => ⟨rxc, by rw [openBlock_at hp]; rfl⟩
  | err c =>
    exact hs.close [.busXfer nopFrame (.err c), .complete (.busErr c)] hopr rfl rfl rfl fun rxc =>
      ⟨{ Script.allOk rxc s.rsp with dXfer := .err c }, by rw [openBlock_at hp]; rfl⟩

/-- The blocking operation with every answer `Ok` completes with POST of the response (R114). -/
theorem operation_allOk (c : Config) (op : OpCode) (rxc rxd : Frame) :
    operation c op (.allOk rxc rxd) = (post c op rxd).map Completion.ok := rfl

theorem completeRead_historyOfBlocks {s : State} {r : Reading} (hp : s.ph = .dDesel) (hopr : s.opr ≠ 3)
    (hr : post s.cfg s.opr s.rsp = some r) (hs : HistoryOfBlocks s) : HistoryOfBlocks (completeRead r s) :=
  hs.close [.pinSet .inactive .ok, .complete (.ok r)] hopr rfl rfl rfl fun rxc =>
    ⟨.allOk rxc s.rsp, by rw [openBlock_at hp, operationBlock, operation_allOk, hr]; rfl⟩

theorem failFinalDeselect_historyOfBlocks {s : State} (hp : s.ph = .dDesel) (hopr : s.opr ≠ 3)
    (hs : HistoryOfBlocks s) (c : PinCause) : HistoryOfBlocks (failFinalDeselect c s) :=
  hs.close [.pinSet .inactive (.err c), .complete (.csErr c)] hopr rfl rfl rfl fun rxc =>
    ⟨{ Script.allOk rxc s.rsp with dDesel := .err c }, by rw [openBlock_at hp]; rfl⟩

/-- A busy coherent state holds one of the three operations (R22). -/
theorem Coherent.opr_ne_three {s : State} {p : Phase} (hc : Coherent s) (hp : s.ph = p) (hb : p ≠ .idle) :
    s.opr ≠ 3 := by
  obtain ⟨-, hopr, -⟩ := hc
  exact hopr (hp ▸ hb)

/-- Every way an edge can leave a next state: reset empties the history, an acceptance opens a block, an `Ok` before
D_DESEL extends it and any other answer closes it. -/
theorem EdgeCase.historyOfBlocks {e : Edge} {s t : State} (h : EdgeCase e s t) (hc : Coherent s)
    (hs : HistoryOfBlocks s) : HistoryOfBlocks t := by
  cases h with
  | reset => exact historyOfBlocks_of_empty rfl rfl
  | wait => exact hs
  | accept op _ hp => exact accept_historyOfBlocks hp hs op
  | cSel a _ hp => exact selectForCommand_historyOfBlocks hp (hc.opr_ne_three hp (by decide)) hs a
  | cXfer f a _ hp _ hf => exact transferCommand_historyOfBlocks hp (hc.opr_ne_three hp (by decide)) hf hs a
  | cDesel a _ hp => exact deselectAfterCommand_historyOfBlocks hp (hc.opr_ne_three hp (by decide)) hs a
  | dSel a _ hp => exact selectForData_historyOfBlocks hp (hc.opr_ne_three hp (by decide)) hs a
  | dXfer a _ hp => exact transferData_historyOfBlocks hp (hc.opr_ne_three hp (by decide)) hs a
  | done r _ hp _ hr => exact completeRead_historyOfBlocks hp (hc.opr_ne_three hp (by decide)) hr hs
  | lost c _ hp => exact failFinalDeselect_historyOfBlocks hp (hc.opr_ne_three hp (by decide)) hs c

/-- Settles O40, by the inversion of a step: a clock edge keeps the blocks in each of its cases, and a frame line
leaves the history and all it is compared with alone. -/
theorem historyIsOperationBlocks : Obligations.HistoryIsOperationBlocks := by
  intro s t hc hs h
  rcases step_cases h with ⟨e, rest, -, he⟩ | ⟨w, rest, f, -, rfl⟩
  · exact he.historyOfBlocks (s := atEdge rest s) hc hs
  · exact hs

end Sys2Proof.Machine
end

section
/-! PROOFS. One step by the input it samples (R53, R91, R98). -/

namespace Sys2Proof.Machine

/-! ### The step runs the decoded instruction -/

theorem act_ofDecode {d : Except DecodeError Instr} {i : Instr} (h : d = .ok i) (s : State) :
    act (Action.ofDecode d) s = exec i s := by
  rw [h]; rfl

theorem edgeAction_request {c : Config} {ph : Phase} {e : Edge} {op : OpCode} (h : e.rst = false)
    (hp : ph = .idle) (hr : e.req = some op) :
    edgeAction c ph e = Action.ofDecode (decode c .req [op.setWidth 8]) := by
  simp [edgeAction, h, hp, hr, requestAction]

theorem edgeAction_reset {c : Config} {ph : Phase} {e : Edge} (h : e.rst = true) :
    edgeAction c ph e = Action.ofDecode (decode c .rst [1]) := by
  simp [edgeAction, h]

theorem edgeAction_response {c : Config} {ph : Phase} {e : Edge} {rx : Frame} (h : e.rst = false)
    (hp : ph = .cXfer ∨ ph = .dXfer) (hb : e.bus = some (.ok rx)) :
    edgeAction c ph e = Action.ofDecode (decode c .rx (frameBytes rx)) := by
  rcases hp with rfl | rfl <;> simp [edgeAction, h, hb, busAction]

/-- Settles O32, by what each channel's input decodes to, in the state from which the input has been taken. -/
theorem stepRunsDecodedInstruction : Obligations.StepRunsDecodedInstruction := by
  refine fun s rest i => ⟨fun e op hin hr hp hq hd => ?_, fun e hin hr hd => ?_,
    fun e rx hin hr hp hb hd => ?_, fun w hin hd => ?_⟩
  · rw [step_of_edge hin, edgeAction_request hr hp hq]
    exact act_ofDecode hd (atEdge rest s)
  · rw [step_of_edge hin, edgeAction_reset hr]
    exact act_ofDecode hd (atEdge rest s)
  · rw [step_of_edge hin, edgeAction_response hr hp hb]
    exact act_ofDecode hd (atEdge rest s)
  · rw [step_of_form hin]
    exact act_ofDecode (decode_command s.cfg w ▸ hd) (s.setInputs rest)

/-! ### The step at a request and at an answer -/

theorem step_of_request {s : State} {e : Edge} {op : OpCode} {rest : List Input}
    (hin : s.inputs = .edge e :: rest) (hp : s.ph = .idle) (hr : e.rst = false) (hq : e.req = some op)
    (h3 : op ≠ 3) :
    step s = .next { atEdge rest s with opr := op, ph := .cSel, events := .accept op :: s.events } := by
  rw [step_of_edge hin, hp, act_edge_idle hr, hq]
  exact (exec_decodeRequest op h3 _).trans (accept_idle op (atEdge rest s) hp)

theorem step_of_pin {s : State} {e : Edge} {a : PinAnswer} {rest : List Input}
    (hin : s.inputs = .edge e :: rest) (hp : s.ph = .cSel ∨ s.ph = .cDesel ∨ s.ph = .dSel ∨ s.ph = .dDesel)
    (he : e.answersPin a) : step s = pinAnswered a (atEdge rest s) := by
  obtain ⟨hr, -, ha⟩ := he
  rw [step_of_edge hin, act_edge_pin hr hp, ha]

theorem step_of_bus {s : State} {e : Edge} {a : BusAnswer} {rest : List Input}
    (hin : s.inputs = .edge e :: rest) (hp : s.ph = .cXfer ∨ s.ph = .dXfer) (he : e.answersBus a) :
    step s = busAnswered a (atEdge rest s) := by
  obtain ⟨hr, -, ha⟩ := he
  rw [step_of_edge hin, act_edge_bus hr hp, ha]

end Sys2Proof.Machine
end

section
/-! PROOFS. The sensor's pending request along an operation: the operation's own register when the data phase's
transfer is answered, the nop's after a success (R46, R49). -/

namespace Sys2Proof.Machine

/-! ### The pending request after an operation -/

/-- A value is driven only by the edge that answers the last deassertion `Ok` (R97). -/
theorem EdgeCase.eq_completeRead {e : Edge} {s t : State} {r : Reading} (h : EdgeCase e s t) (hs : s.cpl = none)
    (ht : t.cpl = some (.ok r)) : s.ph = .dDesel ∧ t = completeRead r s := by
  cases h with
  | reset => cases ht
  | wait | accept => simp [hs] at ht
  | cSel a => cases a <;> simp [selectForCommand_ok, selectForCommand_err, hs] at ht
  | cXfer f a => cases a <;> simp [transferCommand_ok, transferCommand_err, hs] at ht
  | cDesel a => cases a <;> simp [deselectAfterCommand_ok, deselectAfterCommand_err, hs] at ht
  | dSel a => cases a <;> simp [selectForData_ok, selectForData_err, hs] at ht
  | dXfer a => cases a <;> simp [transferData_ok, transferData_err, hs] at ht
  | done r' _ hp => cases ht; exact ⟨hp, rfl⟩
  | lost => cases ht

/-- Settles O57: the operation ends in D_DESEL, where coherence has the nop's request pending, and the last
deassertion leaves it. -/
theorem pendingRequestAfterSuccessIsTheNop : Obligations.PendingRequestAfterSuccessIsTheNop := by
  intro s t e rest r hc hin h ht
  obtain ⟨hp, rfl⟩ := (edgeCase_of_step hin h).eq_completeRead rfl ht
  obtain ⟨-, -, -, hpend⟩ := (coherent_dDesel (s := s) hp).mp hc
  exact hpend

/-! ### An operation up to its data phase -/

/-- The transfer of the command frame, whose frame exists because the code is one of the three (R93). -/
theorem busAnswered_cXfer {s : State} {f : Frame} (hp : s.ph = .cXfer) (hf : commandFrame s.cfg s.opr = some f)
    (a : BusAnswer) : busAnswered a s = .next (transferCommand f a s) := by
  simp [busAnswered, hp, hf]

/-- The blocking operation returns a value only if all six primitives are answered `Ok`, and then it is POST of the
data phase's response (R90, R114). -/
theorem operation_ok_inv {c : Config} {op : OpCode} {sc : Script} {r : Reading}
    (h : operation c op sc = some (.ok r)) : ∃ rxc rxd, sc = .allOk rxc rxd ∧ post c op rxd = some r := by
  obtain ⟨cSel, cXfer, cDesel, dSel, dXfer, dDesel⟩ := sc
  cases cSel with | err => cases h | ok =>
  cases cXfer with | err => cases h | ok rxc =>
  cases cDesel with | err => cases h | ok =>
  cases dSel with | err => cases h | ok =>
  cases dXfer with | err => cases h | ok rxd =>
  cases dDesel with | err => cases h | ok =>
  refine ⟨rxc, rxd, rfl, ?_⟩
  obtain ⟨r', hr', hinj⟩ := Option.map_eq_some_iff.mp h
  cases hinj
  exact hr'

/-- Five edges from an INACTIVE line reach the data phase's transfer with the operation's own register pending: the
command frame followed a fresh edge (R49), and no pin operation answered `Ok` changes what is pending. -/
theorem run_to_dataPhase_pend {s t : State} {op : OpCode} {r : Register} {rxc rxd : Frame} {es : OperationEdges}
    {rest : List Input} (hp : s.ph = .idle) (hl : s.csl = .inactive) (hr : regOf op = some r)
    (hes : es.carry op (.allOk rxc rxd)) (hin : s.inputs = es.inputs ++ rest)
    (h : Host.Core.run Sys2Proof.core 5 s = .next t) : t.pend = some (s.cfg.addr r) := by
  obtain ⟨hrst, hreq, h1, h2, h3, h4, -⟩ := hes
  have hop : op ≠ 3 := by rintro rfl; cases hr
  have hf : commandFrame s.cfg op = some (encr s.cfg r) := by simp [commandFrame, hr]
  rw [run_succ_of_next (step_of_request hin hp hrst hreq hop),
    run_succ_of_next (step_of_pin rfl (.inl rfl) h1),
    run_succ_of_next ((step_of_bus rfl (.inl rfl) h2).trans (busAnswered_cXfer rfl hf _)),
    run_succ_of_next (step_of_pin rfl (.inr (.inl rfl)) h3),
    run_succ_of_next (step_of_pin rfl (.inr (.inr (.inl rfl))) h4), run_zero] at h
  obtain rfl := (Host.Outcome.next.injEq _ _).mp h
  simp [Script.allOk, selectForData_ok, deselectAfterCommand_ok, transferCommand_ok, selectForCommand_ok, hl, encr,
    enc_addr]

/-- Settles O56: a value is POST of the data phase's answer, its 14 content bits under the document's mask, and the
request pending at that answer is the operation's own register. -/
theorem pipelinedSensorGivesOwnRegister : Obligations.PipelinedSensorGivesOwnRegister := by
  intro s t op r sc es rest content rx v hp hl hlits hop hr hes hin hrx hrun hpipe hv
  obtain ⟨rxc, rxd, rfl, hpost⟩ := operation_ok_inv hv
  obtain rfl : rxd = rx := by cases hrx; rfl
  have hpend : t.pend = some (s.cfg.addr r) := run_to_dataPhase_pend hp hl hr hes hin hrun
  have hvalue : post s.cfg op rxd = some (.value (respVal rxd)) := by
    rcases hop with rfl | rfl <;> simp [post, hlits]
  obtain rfl : v = respVal rxd := by
    rw [hvalue] at hpost
    cases hpost
    rfl
  exact hpipe _ hpend

end Sys2Proof.Machine
end

section
/-! PROOFS. Decoder and encoder (R61 to R63, R68, R70, R88): the general command word, the cases of a command frame,
and that decoding and encoding undo each other. -/

namespace Sys2Proof

/-! ### The general command word -/

@[simp] theorem frameParity_commandWord (p : Bit) (a : Addr) : frameParity (commandWord p a) = p :=
  BitVec.extractLsb'_append_eq_left

@[simp] theorem frameAddr_commandWord (p : Bit) (a : Addr) : frameAddr (commandWord p a) = a := by
  rw [frameAddr, commandWord, BitVec.extractLsb'_append_eq_of_add_le (by decide)]
  exact BitVec.extractLsb'_append_eq_right

@[simp] theorem frameRead_commandWord (p : Bit) (a : Addr) : frameRead (commandWord p a) = true := by
  rw [frameRead, commandWord, BitVec.getLsbD_append, BitVec.getLsbD_append]
  rfl

/-- A read frame is the command word of its own parity bit and address. -/
theorem commandWord_fields {f : Frame} (h : frameRead f = true) :
    commandWord (frameParity f) (frameAddr f) = f := by
  have hread : (0b1#1 : Bit) = f.extractLsb' 14 1 := by
    apply BitVec.eq_of_getLsbD_eq
    intro i hi
    obtain rfl : i = 0 := by omega
    simpa [frameRead] using h.symm
  calc commandWord (frameParity f) (frameAddr f)
      = f.extractLsb' 15 1 ++ (f.extractLsb' 14 1 ++ f.extractLsb' 0 14) := by
        rw [commandWord, frameParity, frameAddr, hread]
    _ = f.extractLsb' 15 1 ++ f.extractLsb' 0 15 :=
        congrArg _ (BitVec.extractLsb'_append_extractLsb'_eq_extractLsb' rfl)
    _ = f.extractLsb' 0 16 := BitVec.extractLsb'_append_extractLsb'_eq_extractLsb' rfl
    _ = f := BitVec.extractLsb'_eq_self

/-- Any read frame differs from the nop, whose bit 14 is clear (R70). -/
theorem ne_nopFrame_of_read {f : Frame} (h : frameRead f = true) : f ≠ nopFrame := by
  rintro rfl
  exact absurd h (by decide)

/-! ### The frames of the Register Map -/

theorem Register.mem_all (r : Register) : r ∈ Register.all := by
  cases r <;> decide

theorem mapped_addr (c : Config) (r : Register) : c.mapped (c.addr r) = true :=
  List.any_eq_true.mpr ⟨r, r.mem_all, beq_self_eq_true _⟩

/-- Distinct addresses give distinct frames: a frame holds its address (R6, R88). -/
theorem encr_injective {c : Config} (hc : c.wf = true) {r q : Register} (h : encr c r = encr c q) : r = q := by
  have haddr : c.addr r = c.addr q := by simpa [encr, enc_addr] using congrArg frameAddr h
  exact List.inj_on_of_nodup_map (of_decide_eq_true hc) r.mem_all q.mem_all haddr

theorem encode_instrOfRegister (c : Config) (r : Register) :
    encode c (instrOfRegister r) = (.tx, frameBytes (encr c r)) := by
  cases r <;> rfl

/-! ### The command frame, decoded -/

theorem decodeCommand_nop (c : Config) : decodeCommand c nopFrame = .ok .nop := rfl

theorem decodeCommand_encr {c : Config} (hc : c.wf = true) (r : Register) :
    decodeCommand c (encr c r) = .ok (instrOfRegister r) := by
  have hread : frameRead (encr c r) = true := enc_read _
  have hfind : Register.all.find? (fun q => encr c q == encr c r) = some r := by
    cases hq : Register.all.find? (fun q => encr c q == encr c r) with
    | none => exact absurd (beq_self_eq_true _) (List.find?_eq_none.mp hq r r.mem_all)
    | some q => rw [encr_injective hc (eq_of_beq (List.find?_some (p := fun q => encr c q == encr c r) hq))]
  simp [decodeCommand, ne_nopFrame_of_read hread, hread, hfind]

/-- A command word whose address is not in the Register Map is none of its frames, whatever bit 15 is (log 15). -/
theorem decodeCommand_commandWord {c : Config} {a : Addr} (ha : c.mapped a = false) (p : Bit) :
    decodeCommand c (commandWord p a) = .ok (.enc p a) := by
  have hfind : Register.all.find? (fun q => encr c q == commandWord p a) = none := by
    refine List.find?_eq_none.mpr fun q _ heq => ?_
    have haddr : c.addr q = a := by simpa [encr, enc_addr] using congrArg frameAddr (eq_of_beq heq)
    rw [← haddr, mapped_addr] at ha
    cases ha
  simp [decodeCommand, ne_nopFrame_of_read, hfind]

/-- What a command frame can decode to, and from which frame (R70, R88). -/
theorem decodeCommand_cases {c : Config} {f : Frame} {i : Instr} (h : decodeCommand c f = .ok i) :
    (f = nopFrame ∧ i = .nop) ∨ (∃ r, f = encr c r ∧ i = instrOfRegister r) ∨
      (frameRead f = true ∧ i = .enc (frameParity f) (frameAddr f)) := by
  unfold decodeCommand at h
  split at h
  next hnop => cases h; exact .inl ⟨hnop, rfl⟩
  next =>
    split at h
    next hread =>
      split at h
      next r hr =>
        cases h
        exact .inr (.inl ⟨r, (eq_of_beq (List.find?_some (p := fun q => encr c q == f) hr)).symm, rfl⟩)
      next => cases h; exact .inr (.inr ⟨hread, rfl⟩)
    next => cases h

/-! ### The round trips -/

/-- Settles O34, by the form of the instruction: one code or frame each, the seven frames of the Register Map told
apart by their addresses. -/
theorem decodeEncodeAgree : Obligations.DecodeEncodeAgree := by
  intro c i hc hi
  have hreg (r : Register) : decode c (encode c (instrOfRegister r)).1 (encode c (instrOfRegister r)).2
      = .ok (instrOfRegister r) := by
    rw [encode_instrOfRegister, Machine.decode_command, decodeCommand_encr hc]
  cases i with
  | rddg | rdmag | rdang | reset => rfl
  | reserved3 => cases hi
  | enc p a =>
    obtain ⟨-, ha⟩ := Bool.and_eq_true_iff.mp hi
    exact (Machine.decode_command c _).trans (decodeCommand_commandWord (by simpa using ha) p)
  | encClearErrorFlag => exact hreg .clearErrorFlag
  | encProgrammingControl => exact hreg .programmingControl
  | encOtpZeroPosHigh => exact hreg .otpZeroPosHigh
  | encOtpZeroPosLow => exact hreg .otpZeroPosLow
  | encDiagAgc => exact hreg .diagAgc
  | encMagnitude => exact hreg .magnitude
  | encAngle => exact hreg .angle
  | nop => exact (Machine.decode_command c _).trans (decodeCommand_nop c)
  | rsp st val =>
    refine (Machine.decode_response c _).trans ?_
    rw [decodeResponse, respStatus_responseFrame, respVal_responseFrame]

@[simp] theorem frameBytes_frameOfBytes (b0 b1 : Byte) : frameBytes (frameOfBytes b0 b1) = [b0, b1] := by
  simp [frameBytes]

theorem opCode_cases (op : OpCode) : op = 0 ∨ op = 1 ∨ op = 2 ∨ op = 3 := by
  revert op
  decide

/-- A request code is encoded to the byte that holds it (R68). -/
theorem encode_decodeRequest (c : Config) (op : OpCode) :
    encode c (decodeRequest op) = (.req, [op.setWidth 8]) := by
  rcases opCode_cases op with rfl | rfl | rfl | rfl <;> rfl

theorem encode_of_decodeCommand {c : Config} {f : Frame} {i : Instr} (h : decodeCommand c f = .ok i) :
    encode c i = (.tx, frameBytes f) := by
  rcases decodeCommand_cases h with ⟨rfl, rfl⟩ | ⟨r, rfl, rfl⟩ | ⟨hread, rfl⟩
  · rfl
  · exact encode_instrOfRegister c r
  · rw [encode, commandWord_fields hread]

theorem encode_decodeResponse (c : Config) (f : Frame) : encode c (decodeResponse f) = (.rx, frameBytes f) := by
  rw [decodeResponse, encode, responseFrame_fields]

/-- Settles O35, by the channel: what each reads holds the bits of its bytes. -/
theorem encodeDecodeAgree : Obligations.EncodeDecodeAgree := by
  intro c ch bytes i h
  unfold decode at h
  split at h
  next b =>
    split at h
    next hb =>
      cases h
      have hbyte : (b.setWidth 2).setWidth 8 = b := by
        apply BitVec.eq_of_toNat_eq
        simp only [BitVec.toNat_setWidth]
        omega
      rw [encode_decodeRequest, hbyte]
    next => cases h
  next b =>
    split at h
    next hb => cases h; rw [hb]; rfl
    next => cases h
  next b0 b1 => rw [encode_of_decodeCommand h, frameBytes_frameOfBytes]
  next b0 b1 => cases h; rw [encode_decodeResponse, frameBytes_frameOfBytes]
  next => cases h

/-- Settles O36, by evaluating the decoder on each word. -/
theorem specWordsDecode : Obligations.SpecWordsDecode := by
  unfold Obligations.SpecWordsDecode
  decide

end Sys2Proof
end

section
/-! PROOFS. The response fields (R66), the nop line (R27, R62) and the reserved request (R71). -/

namespace Sys2Proof

/-- A field of a frame is the frame shifted down and masked to the field's width. -/
theorem setWidth_extractLsb'_eq_and (v : Frame) (start : Nat) {width : Nat} (h : width ≤ 16) :
    (v.extractLsb' start width).setWidth 16 = (v >>> start) &&& BitVec.ofNat 16 (2 ^ width - 1) := by
  have hmask : 2 ^ width - 1 < 2 ^ 16 := by
    have := Nat.pow_le_pow_right (n := 2) (by decide) h
    omega
  apply BitVec.eq_of_toNat_eq
  rw [BitVec.toNat_setWidth_of_le h, BitVec.extractLsb'_toNat, BitVec.toNat_and, BitVec.toNat_ushiftRight,
    BitVec.toNat_ofNat, Nat.mod_eq_of_lt hmask, Nat.and_two_pow_sub_one_eq_mod]

/-- Settles O9: each field by its place and width, POST's forms by the lemmas on the document's literals. -/
theorem responseFieldExtraction : Obligations.ResponseFieldExtraction := by
  have bound {width : Nat} (x : BitVec width) (h : width ≤ 16) : (x.setWidth 16).toNat < 2 ^ width := by
    rw [BitVec.toNat_setWidth_of_le h]
    exact x.isLt
  intro v
  refine ⟨?_, rfl, ?_, rfl, ?_, rfl, maskedValue_source v, ?_, bound _ (by decide), bound _ (by decide),
    bound _ (by decide)⟩
  · exact setWidth_extractLsb'_eq_and v 0 (by decide)
  · exact setWidth_extractLsb'_eq_and v 8 (by decide)
  · exact setWidth_extractLsb'_eq_and v 0 (by decide)
  · rw [lowDiag_source, shiftedDiag]

namespace Machine

/-- No operation's command frame is the nop: it is a read (R72, R88). -/
theorem commandFrame_ne_nop (c : Config) (op : OpCode) : commandFrame c op ≠ some nopFrame := by
  intro h
  obtain ⟨r, -, hr⟩ := Option.map_eq_some_iff.mp h
  exact enc_ne_nop _ hr

/-- The data phase sends the nop (R27). -/
theorem busTx_dXfer {s : State} (h : s.ph = .dXfer) : busTx s = some nopFrame := by
  simp [busTx, h]

/-- Settles O8, by what the nop line forms and the data phase sends. -/
theorem nopLineFormsZero : Obligations.NopLineFormsZero :=
  fun s => ⟨form_eq nopFrame s, busTx_dXfer, commandFrame_ne_nop s.cfg s.opr⟩

/-- Settles O14: the meaning of RESERVED3 reads no state. -/
theorem reservedRequestIsRefused : Obligations.ReservedRequestIsRefused :=
  fun _ => rfl

end Machine

end Sys2Proof
end

section
/-! PROOFS. The bus carries only legal frames (R72): every transfer a step records is that of a command frame or of
the nop. -/

namespace Sys2Proof.Machine

theorem legalTx_nopFrame (c : Config) : legalTx c nopFrame = true := by
  simp [legalTx]

/-- The three operations send the three legal command frames; the reserved code sends none (R30, R36). -/
theorem legalTx_of_commandFrame {c : Config} {op : OpCode} {f : Frame} (h : commandFrame c op = some f) :
    legalTx c f = true := by
  rcases opCode_cases op with rfl | rfl | rfl | rfl <;> cases h <;> simp [legalTx]

/-- New events whose transfers are legal keep the bus safe. -/
theorem BusSafe.extend {s t : State} (hs : BusSafe s) (new : List Event) (hcfg : t.cfg = s.cfg)
    (hev : t.events = new ++ s.events) (hnew : ∀ e ∈ new, eventTxLegal s.cfg e = true) : BusSafe t := by
  intro e he
  rw [hev, List.mem_append] at he
  rw [hcfg]
  exact he.elim (hnew e) (hs e)

/-- An answer on the pin port records no transfer, one on the bus port the transfer of its phase's frame. -/
theorem EdgeCase.busSafe {e : Edge} {s t : State} (h : EdgeCase e s t) (hs : BusSafe s) : BusSafe t := by
  cases h with
  | reset => exact fun _ he => absurd he List.not_mem_nil
  | wait => exact hs
  | accept op => exact hs.extend [.accept op] rfl rfl (by simp [eventTxLegal])
  | cSel a =>
    cases a with
    | ok => exact hs.extend [.pinSet .active .ok] rfl rfl (by simp [eventTxLegal])
    | err c => exact hs.extend [.complete (.csErr c), .pinSet .active (.err c)] rfl rfl (by simp [eventTxLegal])
  | cXfer f a _ _ _ hf =>
    have hlegal := legalTx_of_commandFrame hf
    cases a with
    | ok rx => exact hs.extend [.busXfer f (.ok rx)] rfl rfl (by simp [eventTxLegal, hlegal])
    | err c =>
      exact hs.extend [.complete (.busErr c), .busXfer f (.err c)] rfl rfl (by simp [eventTxLegal, hlegal])
  | cDesel a =>
    cases a with
    | ok => exact hs.extend [.pinSet .inactive .ok] rfl rfl (by simp [eventTxLegal])
    | err c =>
      exact hs.extend [.complete (.csErr c), .pinSet .inactive (.err c)] rfl rfl (by simp [eventTxLegal])
  | dSel a =>
    cases a with
    | ok => exact hs.extend [.pinSet .active .ok] rfl rfl (by simp [eventTxLegal])
    | err c => exact hs.extend [.complete (.csErr c), .pinSet .active (.err c)] rfl rfl (by simp [eventTxLegal])
  | dXfer a =>
    have hlegal := legalTx_nopFrame s.cfg
    cases a with
    | ok rx => exact hs.extend [.busXfer nopFrame (.ok rx)] rfl rfl (by simp [eventTxLegal, hlegal])
    | err c =>
      exact hs.extend [.complete (.busErr c), .busXfer nopFrame (.err c)] rfl rfl (by simp [eventTxLegal, hlegal])
  | done r => exact hs.extend [.complete (.ok r), .pinSet .inactive .ok] rfl rfl (by simp [eventTxLegal])
  | lost c => exact hs.extend [.complete (.csErr c), .pinSet .inactive (.err c)] rfl rfl (by simp [eventTxLegal])

/-- Settles O41, by the inversion of a step: a clock edge keeps the bus safe in each of its cases, and a frame line
records nothing. -/
theorem busCarriesOnlyLegalFrames : Obligations.BusCarriesOnlyLegalFrames := by
  intro s t hs h
  rcases step_cases h with ⟨e, rest, -, he⟩ | ⟨w, rest, f, -, rfl⟩
  · exact he.busSafe (s := atEdge rest s) hs
  · exact hs

end Sys2Proof.Machine
end

section
/-! PROOFS. A coherent machine under a host that keeps its obligations never stops (R10, R71, R129): every such step
answers a next state, and both premises survive it. -/

namespace Sys2Proof.Machine

/-- The inputs still to come are those a host may present (R71, R72). -/
def Obedient (s : State) : Prop := ∀ inp ∈ s.inputs, hostInputOk s.cfg inp = true

/-! ### A step takes one input off the list -/

theorem nextInput_rest (l : List Input) : (nextInput l).2 = l.tail := by
  cases l <;> rfl

theorem EdgeCase.inputs_eq {e : Edge} {s t : State} (h : EdgeCase e s t) : t.inputs = s.inputs := by
  cases h with
  | reset | wait | accept | done | lost => rfl
  | cSel a | cXfer _ a | cDesel a | dSel a | dXfer a => cases a <;> rfl

theorem step_inputs {s t : State} (h : step s = .next t) : t.inputs = s.inputs.tail := by
  rcases step_cases h with ⟨e, rest, hin, he⟩ | ⟨w, rest, f, hin, rfl⟩
  · rw [he.inputs_eq, ← nextInput_rest, hin]
    rfl
  · rw [hin]
    rfl

theorem obedient_of_step {s t : State} (ho : Obedient s) (h : step s = .next t) : Obedient t := by
  intro inp hinp
  rw [parametersNeverChange s t h]
  rw [step_inputs h] at hinp
  exact ho inp (List.mem_of_mem_tail hinp)

/-! ### A coherent state answers every port -/

theorem Coherent.ph_ne_seven {s : State} (hc : Coherent s) : s.ph ≠ .seven := by
  obtain ⟨h7, -⟩ := hc
  exact h7

theorem pinAnswered_of_coherent {s : State} (hc : Coherent s) (a : PinAnswer) :
    ∃ t, pinAnswered a s = .next t := by
  unfold pinAnswered
  cases hp : s.ph with
  | idle | cSel | cXfer | cDesel | dSel | dXfer => exact ⟨_, rfl⟩
  | dDesel =>
    cases a with
    | ok =>
      obtain ⟨r, hr⟩ := Option.isSome_iff_exists.mp
        (post_isSome s.cfg s.opr s.rsp (hc.opr_ne_three hp (by decide)))
      exact ⟨completeRead r s, by simp [hr]⟩
    | err c => exact ⟨_, rfl⟩
  | seven => exact absurd hp hc.ph_ne_seven

theorem busAnswered_of_coherent {s : State} (hc : Coherent s) (a : BusAnswer) :
    ∃ t, busAnswered a s = .next t := by
  cases hp : s.ph with
  | idle | cSel | cDesel | dSel | dXfer | dDesel => exact ⟨_, by rw [busAnswered, hp]⟩
  | cXfer =>
    obtain ⟨r, hr⟩ := Option.isSome_iff_exists.mp (regOf_isSome s.opr (hc.opr_ne_three hp (by decide)))
    exact ⟨_, busAnswered_cXfer hp (f := encr s.cfg r) (by simp [commandFrame, hr]) a⟩
  | seven => exact absurd hp hc.ph_ne_seven

/-- A clock edge without request code 3 is carried out in every coherent state. -/
theorem act_edge_of_coherent {s : State} {e : Edge} (hc : Coherent s) (hreq : e.req ≠ some 3) :
    ∃ t, act (edgeAction s.cfg s.ph e) s = .next t := by
  by_cases hr : e.rst = true
  · exact ⟨_, act_edge_reset hr s⟩
  replace hr : e.rst = false := by simpa using hr
  have onPin (hp : s.ph = .cSel ∨ s.ph = .cDesel ∨ s.ph = .dSel ∨ s.ph = .dDesel) :
      ∃ t, act (edgeAction s.cfg s.ph e) s = .next t := by
    rw [act_edge_pin hr hp]
    cases e.pin with
    | none => exact ⟨s, rfl⟩
    | some a => exact pinAnswered_of_coherent hc a
  have onBus (hp : s.ph = .cXfer ∨ s.ph = .dXfer) : ∃ t, act (edgeAction s.cfg s.ph e) s = .next t := by
    rw [act_edge_bus hr hp]
    cases e.bus with
    | none => exact ⟨s, rfl⟩
    | some a => exact busAnswered_of_coherent hc a
  cases hp : s.ph with
  | idle =>
    rw [act_edge_idle hr]
    cases hq : e.req with
    | none => exact ⟨s, rfl⟩
    | some op =>
      have h3 : op ≠ 3 := fun h => hreq (h ▸ hq)
      exact ⟨_, (exec_decodeRequest op h3 s).trans (accept_idle op s hp)⟩
  | cSel | cDesel | dSel | dDesel => exact hp ▸ onPin (by simp [hp])
  | cXfer | dXfer => exact hp ▸ onBus (by simp [hp])
  | seven => exact absurd hp hc.ph_ne_seven

/-! ### Lines that form a frame -/

theorem exec_instrOfRegister (r : Register) (s : State) :
    exec (instrOfRegister r) s = form (encr s.cfg r) s := by
  cases r <;> rfl

/-- What a command frame decodes to forms a frame, in every state (R87). -/
theorem exec_of_decodeCommand {c : Config} {w : Frame} {i : Instr} (h : decodeCommand c w = .ok i) (s : State) :
    ∃ f, exec i s = form f s := by
  rcases decodeCommand_cases h with ⟨-, rfl⟩ | ⟨r, -, rfl⟩ | ⟨-, rfl⟩
  · exact ⟨nopFrame, rfl⟩
  · exact ⟨_, exec_instrOfRegister r s⟩
  · exact ⟨enc (frameAddr w), rfl⟩

/-- A line a host may present decodes (R72). -/
theorem decodeCommand_of_hostInputOk {c : Config} {w : Frame} (h : hostInputOk c (.form w) = true) :
    ∃ i, decodeCommand c w = .ok i := by
  rw [hostInputOk, decode_command] at h
  cases hd : decodeCommand c w with
  | ok i => exact ⟨i, rfl⟩
  | error e => simp [hd] at h

/-! ### The run -/

theorem step_of_obedient {s : State} (hc : Coherent s) (ho : Obedient s) : ∃ t, step s = .next t := by
  rcases hin : s.inputs with _ | ⟨e | w, rest⟩
  · rw [step_of_nil hin]
    exact act_edge_of_coherent (s := atEdge [] s) hc (by simp)
  · have hreq : hostInputOk s.cfg (.edge e) = true := ho _ (by simp [hin])
    rw [step_of_edge hin]
    exact act_edge_of_coherent (s := atEdge rest s) hc (by simpa [hostInputOk] using hreq)
  · obtain ⟨i, hi⟩ := decodeCommand_of_hostInputOk (ho (.form w) (by simp [hin]))
    obtain ⟨f, hf⟩ := exec_of_decodeCommand hi (s.setInputs rest)
    rw [step_of_form hin, act_ofDecode hi, hf]
    exact ⟨_, rfl⟩

/-- Settles O53, by induction on the number of steps: each answers a next state, coherent and obedient again. -/
theorem obedientHostNeverStopsTheBlock : Obligations.ObedientHostNeverStopsTheBlock := by
  intro k
  induction k with
  | zero => exact fun s hc _ => ⟨s, run_zero s, hc⟩
  | succ k ih =>
    intro s hc ho
    obtain ⟨t, ht⟩ := step_of_obedient hc ho
    rw [run_succ_of_next ht]
    exact ih t (stepKeepsCoherence s t hc ht) (obedient_of_step ho ht)

end Sys2Proof.Machine
end

section
/-! PROOFS. The parity codec (R80 to R88): `xorred` is the parity of the set bits and splits over append and XOR; the
tree folds halves, which keeps it; a command frame is its address under the complement of its parity. -/

namespace Sys2Proof

/-! ### The XOR of a list of bits -/

theorem foldr_xor_append (l k : List Bool) :
    (l ++ k).foldr Bool.xor false = (l.foldr Bool.xor false ^^ k.foldr Bool.xor false) := by
  rw [List.foldr_append, ← Bool.false_xor (k.foldr Bool.xor false)]
  exact (List.foldr_assoc (op := Bool.xor)).trans (by rw [Bool.false_xor])

theorem foldr_xor_map_xor {α : Type} (l : List α) (p q : α → Bool) :
    (l.map fun i => p i ^^ q i).foldr Bool.xor false =
      ((l.map p).foldr Bool.xor false ^^ (l.map q).foldr Bool.xor false) := by
  induction l with
  | nil => rfl
  | cons i l ih =>
    simp only [List.map_cons, List.foldr_cons, ih, Bool.xor_assoc, Bool.xor_left_comm]

/-- The XOR of a list of bits tells whether the number of its set bits is odd. -/
theorem toNat_foldr_xor (l : List Bool) : (l.foldr Bool.xor false).toNat = l.count true % 2 := by
  induction l with
  | nil => rfl
  | cons b l ih =>
    cases b with
    | false => simpa using ih
    | true =>
      rw [List.foldr_cons, List.count_cons_self, Bool.true_xor, Nat.add_mod, ← ih]
      cases l.foldr Bool.xor false <;> rfl

/-! ### `xorred` and `popcount` (R8) -/

theorem xorred_toNat {n : Nat} (v : BitVec n) : (xorred v).toNat = popcount v % 2 := by
  rw [xorred, BitVec.toNat_ofBool, toNat_foldr_xor, popcount]

theorem popcount_even_iff {n : Nat} (v : BitVec n) : popcount v % 2 = 0 ↔ xorred v = 0#1 := by
  rw [← xorred_toNat, ← BitVec.toNat_inj]
  rfl

theorem popcount_odd_iff {n : Nat} (v : BitVec n) : popcount v % 2 = 1 ↔ xorred v = 1#1 := by
  rw [← xorred_toNat, ← BitVec.toNat_inj]
  rfl

@[simp] theorem xorred_bit (p : Bit) : xorred p = p := by
  revert p
  decide

@[simp] theorem xorred_xor {n : Nat} (v w : BitVec n) : xorred (v ^^^ w) = xorred v ^^^ xorred w := by
  have hbits : (v ^^^ w).getLsbD = fun i => v.getLsbD i ^^ w.getLsbD i := funext fun _ => BitVec.getLsbD_xor
  rw [xorred, hbits, foldr_xor_map_xor, ← BitVec.ofBool_xor_ofBool, xorred, xorred]

@[simp] theorem xorred_append {n m : Nat} (v : BitVec n) (w : BitVec m) :
    xorred (v ++ w) = xorred v ^^^ xorred w := by
  have hlow : (List.range m).map (v ++ w).getLsbD = (List.range m).map w.getLsbD :=
    List.map_congr_left fun i hi => by simp [BitVec.getLsbD_append, List.mem_range.mp hi]
  have hhigh : (List.range n).map ((v ++ w).getLsbD ∘ fun i => m + i) = (List.range n).map v.getLsbD :=
    List.map_congr_left fun i _ => by simp [BitVec.getLsbD_append]
  have hrange : List.range (n + m) = List.range m ++ (List.range n).map fun i => m + i := by
    rw [Nat.add_comm, List.range_add]
  rw [xorred, hrange, List.map_append, List.map_map, hlow, hhigh, foldr_xor_append, ← BitVec.ofBool_xor_ofBool,
    BitVec.xor_comm, xorred, xorred]

/-- A word with one set bit. -/
theorem popcount_twoPow {n i : Nat} (hi : i < n) : popcount (BitVec.twoPow n i) = 1 := by
  have hbit : (· == true) ∘ (BitVec.twoPow n i).getLsbD = (· == i) := by
    funext j
    simp [hi, eq_comm, beq_eq_decide]
  rw [popcount, List.count, List.countP_map, hbit]
  exact List.count_eq_one_of_mem List.nodup_range (List.mem_range.mpr hi)

theorem xorred_twoPow {n i : Nat} (hi : i < n) : xorred (BitVec.twoPow n i) = 1#1 :=
  (popcount_odd_iff _).mp (by rw [popcount_twoPow hi])

/-! ### The tree (R81, R82) -/

/-- One level of the tree: the upper half XORed onto the lower half. -/
def halve {n : Nat} (x : BitVec (n + n)) : BitVec n := x.extractLsb' n n ^^^ x.extractLsb' 0 n

theorem fold_eq_halve (x : Frame) :
    fold x = halve (n := 1) (halve (n := 2) (halve (n := 4) (halve (n := 8) x))) := rfl

theorem xorred_halve {n : Nat} (x : BitVec (n + n)) : xorred (halve x) = xorred x := by
  rw [halve, xorred_xor, ← xorred_append, BitVec.extractLsb'_append_extractLsb']

theorem fold_eq_xorred (x : Frame) : fold x = xorred x := by
  rw [fold_eq_halve, ← xorred_bit (halve _), xorred_halve, xorred_halve, xorred_halve, xorred_halve]

/-- A line of the shift form keeps the next vector of the tree in its low bits (R81). -/
theorem low_xor_ushiftRight {w n : Nat} {y : BitVec w} {x : BitVec (n + n)} (h : y.extractLsb' 0 (n + n) = x) :
    (y ^^^ (y >>> n)).extractLsb' 0 n = halve x := by
  subst h
  apply BitVec.eq_of_getLsbD_eq
  intro i hi
  simp [halve, hi, Bool.xor_comm]

theorem shiftFold_eq_fold (x : Frame) : shiftFold x = fold x := by
  have h8 := low_xor_ushiftRight (n := 8) (BitVec.extractLsb'_eq_self (x := x))
  have h4 := low_xor_ushiftRight (n := 4) h8
  have h2 := low_xor_ushiftRight (n := 2) h4
  exact low_xor_ushiftRight (n := 1) h2

/-- Settles O2: each level of the tree keeps `xorred`, and the shift form follows the tree level by level. -/
theorem foldIsPopcountParity : Obligations.FoldIsPopcountParity :=
  fun x => ⟨fold_eq_xorred x, by rw [fold_eq_xorred, xorred_toNat], shiftFold_eq_fold x⟩

/-! ### The encoder (R80, R83 to R86) -/

/-- The read flag makes the parity of the base the complement of the address's (R84). -/
theorem xorred_commandBase (a : Addr) : xorred (commandBase a) = 1#1 ^^^ xorred a :=
  xorred_append _ _

theorem frameParity_enc (a : Addr) : frameParity (enc a) = 1#1 ^^^ xorred a := by
  rw [← xorred_commandBase, ← fold_eq_xorred]
  apply BitVec.eq_of_getLsbD_eq
  intro i hi
  obtain rfl : i = 0 := by omega
  rw [frameParity, BitVec.getLsbD_extractLsb', enc_getLsbD a 15 (by decide), commandBase_getLsbD a 15 (by decide)]
  rfl

/-- ENC(a) is the command word whose parity bit complements the parity of the address (R84, R85). -/
theorem enc_eq_commandWord (a : Addr) : enc a = commandWord (1#1 ^^^ xorred a) a := by
  rw [← commandWord_fields (enc_read a), frameParity_enc, enc_addr]

theorem xorred_commandWord (p : Bit) (a : Addr) : xorred (commandWord p a) = p ^^^ (1#1 ^^^ xorred a) :=
  (xorred_append _ _).trans (by rw [xorred_append, xorred_bit, xorred_bit])

theorem xorred_enc (a : Addr) : xorred (enc a) = 0#1 := by
  rw [enc_eq_commandWord, xorred_commandWord, BitVec.xor_self]

/-- A read frame whose parity is even is the ENC of its own address (R85). -/
theorem enc_frameAddr {f : Frame} (hread : frameRead f = true) (heven : xorred f = 0#1) : enc (frameAddr f) = f := by
  rw [← commandWord_fields hread, xorred_commandWord] at heven
  rw [enc_eq_commandWord, ← BitVec.xor_eq_zero_iff.mp heven, commandWord_fields hread]

/-- Settles O1, by the parity of the frame. -/
theorem commandFramesHaveEvenParity : Obligations.CommandFramesHaveEvenParity :=
  fun a => (popcount_even_iff _).mpr (xorred_enc a)

/-- Settles O3, field by field; the bound is bit 14. -/
theorem commandFrameFields : Obligations.CommandFrameFields :=
  fun a => ⟨enc_addr a, enc_read a, frameParity_enc a, Nat.ge_two_pow_of_testBit (enc_read a), enc_ne_nop a⟩

/-- Settles O4: an even read frame is the ENC of its address, and a frame holds its address. -/
theorem commandFramesAreTheEvenReadWords : Obligations.CommandFramesAreTheEvenReadWords := by
  refine ⟨fun f => ⟨?_, ?_⟩, fun a b h => ?_⟩
  · rintro ⟨a, rfl⟩
    exact ⟨enc_read a, commandFramesHaveEvenParity a⟩
  · rintro ⟨hread, heven⟩
    exact ⟨frameAddr f, enc_frameAddr hread ((popcount_even_iff f).mp heven)⟩
  · rw [← enc_addr a, h, enc_addr b]

/-- Settles O5: each flipped bit complements the parity of the frame, which is even. -/
theorem singleBitErrorIsDetectable : Obligations.SingleBitErrorIsDetectable := by
  intro a i hi
  have hone : xorred (enc a ^^^ BitVec.twoPow 16 i) = 1#1 := by
    rw [xorred_xor, xorred_enc, xorred_twoPow hi, BitVec.zero_xor]
  refine ⟨(popcount_odd_iff _).mpr hone, fun j hj _ => (popcount_even_iff _).mpr ?_⟩
  rw [xorred_xor, hone, xorred_twoPow hj, BitVec.xor_self]

/-- Settles O7: ENC forms its frame by definition, the seven lines the frame of their register. -/
theorem encodeLinesFormTheirFrame : Obligations.EncodeLinesFormTheirFrame := by
  intro s
  have hreg (r : Register) :
      Machine.exec (instrOfRegister r) s = .next { s with formed := some (encr s.cfg r) } :=
    (Machine.exec_instrOfRegister r s).trans (Machine.form_eq _ s)
  exact ⟨fun _ a => Machine.form_eq (enc a) s, hreg .clearErrorFlag, hreg .programmingControl,
    hreg .otpZeroPosHigh, hreg .otpZeroPosLow, hreg .diagAgc, hreg .magnitude, hreg .angle⟩

end Sys2Proof
end

section
/-! PROOFS. The step in each phase of the sequencer (R91 to R98): the acceptance, the answer that fires the phase's
transition, and waiting. The three phases whose pin operation does not end an operation share one transition. -/

namespace Sys2Proof.Machine

/-! ### The request and the received frame as instructions -/

/-- Settles O12: each request is the acceptance of its code. -/
theorem requestIsAcceptedWhenIdle : Obligations.RequestIsAcceptedWhenIdle :=
  fun s hp => ⟨accept_idle 0 s hp, accept_idle 1 s hp, accept_idle 2 s hp⟩

theorem commandFrame_of_regOf {c : Config} {op : OpCode} {r : Register} (h : regOf op = some r) :
    commandFrame c op = some (enc (c.addr r)) := by
  simp [commandFrame, h, encr]

theorem exists_commandFrame (c : Config) {op : OpCode} (h : op ≠ 3) : ∃ f, commandFrame c op = some f := by
  obtain ⟨r, hr⟩ := Option.isSome_iff_exists.mp (regOf_isSome op h)
  exact ⟨_, commandFrame_of_regOf hr⟩

theorem busAnswered_dXfer {s : State} (hp : s.ph = .dXfer) (a : BusAnswer) :
    busAnswered a s = .next (transferData a s) := by
  simp [busAnswered, hp]

/-- Settles O18: the frame answers the transfer of the command frame, whose address bits are the register's. -/
theorem responseInCommandPhaseIsDiscarded : Obligations.ResponseInCommandPhaseIsDiscarded := by
  intro s st val r hp hr
  rw [exec_rsp, busAnswered_cXfer hp (commandFrame_of_regOf hr), transferCommand_ok, enc_addr]

/-- Settles O19: the frame answers the transfer of the nop, whose address bits are 0. -/
theorem responseInDataPhaseIsCaptured : Obligations.ResponseInDataPhaseIsCaptured := by
  intro s st val hp
  have hnop : frameAddr nopFrame = 0 := by decide
  rw [exec_rsp, busAnswered_dXfer hp, transferData_ok, hnop]
  rfl

/-- Settles O20, in each phase with no bus primitive outstanding. -/
theorem responseIsIgnoredElsewhere : Obligations.ResponseIsIgnoredElsewhere := by
  intro s st val hp
  rw [exec_rsp, busAnswered]
  rcases hp with hp | hp | hp | hp | hp <;> rw [hp]

/-! ### The pin operations that do not end an operation -/

/-- The phases whose pin operation does not end an operation, each with the level it asks for and the phase that
follows an `Ok` (R92, R94, R95). -/
inductive PinPhase : Phase → Level → Phase → Prop where
  | cSel   : PinPhase .cSel .active .cXfer
  | cDesel : PinPhase .cDesel .inactive .dSel
  | dSel   : PinPhase .dSel .active .dXfer

/-- The transition of these phases: `PinSet(l)` has been answered, and phase `q` follows an `Ok`. -/
def settlePin (l : Level) (q : Phase) (a : PinAnswer) (s : State) : State :=
  match a with
  | .ok    => (pinSettled l .ok s).setPh q
  | .err c => raiseCsError c (pinSettled l (.err c) s)

theorem selectForCommand_eq_settlePin (a : PinAnswer) (s : State) :
    selectForCommand a s = settlePin .active .cXfer a s := by cases a <;> rfl

theorem deselectAfterCommand_eq_settlePin (a : PinAnswer) (s : State) :
    deselectAfterCommand a s = settlePin .inactive .dSel a s := by cases a <;> rfl

theorem selectForData_eq_settlePin (a : PinAnswer) (s : State) :
    selectForData a s = settlePin .active .dXfer a s := by cases a <;> rfl

theorem settlePin_ok (l : Level) (q : Phase) (s : State) : settlePin l q .ok s =
    { s with ph := q, csl := l, framed := l == .active && s.csl == .inactive,
             events := .pinSet l .ok :: s.events } := rfl

theorem settlePin_err (l : Level) (q : Phase) (c : PinCause) (s : State) : settlePin l q (.err c) s =
    { s with ph := .idle, csl := .unknown, framed := false, pend := none, cpl := some (.csErr c),
             events := .complete (.csErr c) :: .pinSet l (.err c) :: s.events } := rfl

theorem PinPhase.next? {p q : Phase} {l : Level} (h : PinPhase p l q) : p.next? = some q := by
  cases h <;> rfl

theorem PinPhase.pinAnswered {s : State} {p q : Phase} {l : Level} (h : PinPhase p l q) (hp : s.ph = p)
    (a : PinAnswer) : pinAnswered a s = .next (settlePin l q a s) := by
  cases h with
  | cSel => simp [Machine.pinAnswered, hp, selectForCommand_eq_settlePin]
  | cDesel => simp [Machine.pinAnswered, hp, deselectAfterCommand_eq_settlePin]
  | dSel => simp [Machine.pinAnswered, hp, selectForData_eq_settlePin]

/-! ### The last deassertion -/

theorem pinAnswered_dDesel_ok {s : State} {r : Reading} (hp : s.ph = .dDesel)
    (hr : post s.cfg s.opr s.rsp = some r) : pinAnswered .ok s = .next (completeRead r s) := by
  simp [pinAnswered, hp, hr]

theorem pinAnswered_dDesel_err {s : State} (hp : s.ph = .dDesel) (c : PinCause) :
    pinAnswered (.err c) s = .next (failFinalDeselect c s) := by
  simp [pinAnswered, hp]

/-! ### The step at an edge without reset that answers the phase's primitive -/

section
variable {s : State} {e : Edge} {rest : List Input}

theorem step_of_pinAnswer {a : PinAnswer} (hin : s.inputs = .edge e :: rest) (hr : e.rst = false)
    (hp : s.ph = .cSel ∨ s.ph = .cDesel ∨ s.ph = .dSel ∨ s.ph = .dDesel) (ha : e.pin = some a) :
    step s = pinAnswered a (atEdge rest s) := by
  rw [step_of_edge hin, act_edge_pin hr hp, ha]

theorem step_of_busAnswer {a : BusAnswer} (hin : s.inputs = .edge e :: rest) (hr : e.rst = false)
    (hp : s.ph = .cXfer ∨ s.ph = .dXfer) (ha : e.bus = some a) : step s = busAnswered a (atEdge rest s) := by
  rw [step_of_edge hin, act_edge_bus hr hp, ha]

theorem PinPhase.step_eq {p q : Phase} {l : Level} {a : PinAnswer} (h : PinPhase p l q) (hp : s.ph = p)
    (hin : s.inputs = .edge e :: rest) (hr : e.rst = false) (ha : e.pin = some a) :
    step s = .next (settlePin l q a (atEdge rest s)) := by
  have waits : s.ph = .cSel ∨ s.ph = .cDesel ∨ s.ph = .dSel ∨ s.ph = .dDesel := by cases h <;> simp [hp]
  exact (step_of_pinAnswer hin hr waits ha).trans (h.pinAnswered (s := atEdge rest s) hp a)

theorem step_cXfer {a : BusAnswer} {f : Frame} (hp : s.ph = .cXfer) (hf : commandFrame s.cfg s.opr = some f)
    (hin : s.inputs = .edge e :: rest) (hr : e.rst = false) (ha : e.bus = some a) :
    step s = .next (transferCommand f a (atEdge rest s)) :=
  (step_of_busAnswer hin hr (.inl hp) ha).trans (busAnswered_cXfer (s := atEdge rest s) hp hf a)

theorem step_dXfer {a : BusAnswer} (hp : s.ph = .dXfer) (hin : s.inputs = .edge e :: rest) (hr : e.rst = false)
    (ha : e.bus = some a) : step s = .next (transferData a (atEdge rest s)) :=
  (step_of_busAnswer hin hr (.inr hp) ha).trans (busAnswered_dXfer (s := atEdge rest s) hp a)

theorem step_dDesel_ok {r : Reading} (hp : s.ph = .dDesel) (hin : s.inputs = .edge e :: rest)
    (hr : e.rst = false) (ha : e.pin = some .ok) (hpost : post s.cfg s.opr s.rsp = some r) :
    step s = .next (completeRead r (atEdge rest s)) :=
  (step_of_pinAnswer hin hr (by simp [hp]) ha).trans (pinAnswered_dDesel_ok (s := atEdge rest s) hp hpost)

theorem step_dDesel_err {c : PinCause} (hp : s.ph = .dDesel) (hin : s.inputs = .edge e :: rest)
    (hr : e.rst = false) (ha : e.pin = some (.err c)) :
    step s = .next (failFinalDeselect c (atEdge rest s)) :=
  (step_of_pinAnswer hin hr (by simp [hp]) ha).trans (pinAnswered_dDesel_err (s := atEdge rest s) hp c)

/-! ### The transitions of the command and data phase -/

theorem PinPhase.step_ok {p q : Phase} {l : Level} (h : PinPhase p l q) (hp : s.ph = p)
    (hin : s.inputs = .edge e :: rest) (hr : e.rst = false) (ha : e.pin = some .ok) :
    ∃ t, step s = .next t ∧ t.ph = q ∧ t.csl = l ∧ t.framed = (l == .active && s.csl == .inactive) ∧
      t.rsp = s.rsp ∧ t.pend = s.pend ∧ t.cpl = none ∧ t.events = .pinSet l .ok :: s.events ∧
      t.inputs = rest ∧ Untouched s t :=
  ⟨_, h.step_eq hp hin hr ha, by simp [settlePin_ok, Untouched]⟩

theorem PinPhase.step_err {p q : Phase} {l : Level} {c : PinCause} (h : PinPhase p l q) (hp : s.ph = p)
    (hin : s.inputs = .edge e :: rest) (hr : e.rst = false) (ha : e.pin = some (.err c)) :
    ∃ t, step s = .next t ∧ t.ph = .idle ∧ t.csl = .unknown ∧ t.framed = false ∧ t.rsp = s.rsp ∧
      t.pend = none ∧ t.cpl = some (.csErr c) ∧ busReq t = false ∧
      t.events = .complete (.csErr c) :: .pinSet l (.err c) :: s.events ∧ t.inputs = rest ∧ Untouched s t :=
  ⟨_, h.step_eq hp hin hr ha, by simp [settlePin_err, Untouched, busReq]⟩

end

/-- Settles O21, by the shared transition of the pin operations. -/
theorem assertForCommandPhase : Obligations.AssertForCommandPhase :=
  fun _ _ _ hp hin hr => ⟨by simp [pinReq, hp], by simp [pinLevel, hp], PinPhase.cSel.step_ok hp hin hr,
    fun _ => PinPhase.cSel.step_err hp hin hr⟩

/-- Settles O23, by the shared transition of the pin operations. -/
theorem deassertAfterCommandPhase : Obligations.DeassertAfterCommandPhase :=
  fun _ _ _ hp hin hr => ⟨by simp [pinReq, hp], by simp [pinLevel, hp], PinPhase.cDesel.step_ok hp hin hr,
    fun _ => PinPhase.cDesel.step_err hp hin hr⟩

/-- Settles O24, by the shared transition of the pin operations. -/
theorem assertForDataPhase : Obligations.AssertForDataPhase :=
  fun _ _ _ hp hin hr => ⟨by simp [pinReq, hp], by simp [pinLevel, hp], PinPhase.dSel.step_ok hp hin hr,
    fun _ => PinPhase.dSel.step_err hp hin hr⟩

/-- Settles O22, by the transfer of the frame of the operation's register. -/
theorem transferCommandFrame : Obligations.TransferCommandFrame := by
  refine ⟨⟨rfl, rfl, rfl, by decide⟩, fun s e rest r hp hin hr hreg => ?_⟩
  have hf : commandFrame s.cfg s.opr = some (enc (s.cfg.addr r)) := commandFrame_of_regOf hreg
  refine ⟨by simp [busReq, hp], by simp [busTx, hp, hf], fun rx ha => ?_, fun c ha => ?_⟩
  · exact ⟨_, step_cXfer hp hf hin hr ha, by simp [transferCommand_ok, Untouched]⟩
  · exact ⟨_, step_cXfer hp hf hin hr ha, by simp [transferCommand_err, Untouched, pinReq, busReq]⟩

/-- Settles O25, by the transfer of the nop. -/
theorem transferNopAndCapture : Obligations.TransferNopAndCapture := by
  intro s e rest hp hin hr
  refine ⟨by simp [busReq, hp], busTx_dXfer hp, fun rx ha => ?_, fun c ha => ?_⟩
  · exact ⟨_, step_dXfer hp hin hr ha, by simp [transferData_ok, Untouched, nopFrame]⟩
  · exact ⟨_, step_dXfer hp hin hr ha, by simp [transferData_err, Untouched, nopFrame]⟩

/-- Settles O26, by the two answers to the last deassertion. -/
theorem deassertAndComplete : Obligations.DeassertAndComplete := by
  intro s e rest hp hin hr
  refine ⟨by simp [pinReq, hp], by simp [pinLevel, hp], fun r ha hpost => ?_, fun c ha => ?_⟩
  · exact ⟨_, step_dDesel_ok hp hin hr ha hpost, by simp [completeRead_eq, Untouched]⟩
  · exact ⟨_, step_dDesel_err hp hin hr ha, by simp [failFinalDeselect_eq, Untouched]⟩

/-! ### Waiting -/

/-- An edge without reset that brings nothing on the phase's own port is waited out (R98). -/
theorem act_edge_wait {s : State} {e : Edge} (hr : e.rst = false) (h7 : s.ph ≠ .seven)
    (hreq : s.ph = .idle → e.req = none) (hpin : pinReq s = true → e.pin = none)
    (hbus : busReq s = true → e.bus = none) : act (edgeAction s.cfg s.ph e) s = .next s := by
  cases hp : s.ph with
  | idle => rw [act_edge_idle hr, hreq hp]
  | cSel | cDesel | dSel | dDesel => rw [act_edge_pin hr (by simp), hpin (by simp [pinReq, hp])]
  | cXfer | dXfer => rw [act_edge_bus hr (by simp), hbus (by simp [busReq, hp])]
  | seven => exact absurd hp h7

/-- Settles O27: an edge with nothing for the phase is waited out, and the empty list stands for such an edge. -/
theorem waitsWithoutAnswer : Obligations.WaitsWithoutAnswer := by
  refine ⟨fun s e rest hin hr h7 hreq hpin hbus => ?_, fun s hin h7 => ?_⟩
  · rw [step_of_edge hin]
    exact act_edge_wait (s := atEdge rest s) hr h7 hreq hpin hbus
  · rw [step_of_nil hin, ← hin]
    exact act_edge_wait (s := atEdge s.inputs s) rfl h7 (fun _ => rfl) (fun _ => rfl) (fun _ => rfl)

end Sys2Proof.Machine
end

section
/-! PROOFS. The end of an operation: where the line is left, by outcome (R100), and how soon it comes when every
primitive is answered (R104). -/

namespace Sys2Proof.Machine

/-! ### The line at completion -/

theorem settlePin_line {s : State} {l : Level} {q : Phase} {a : PinAnswer} {c : Completion} (hs : s.cpl = none)
    (hc : (settlePin l q a s).cpl = some c) : (settlePin l q a s).csl = lineAtCompletion c := by
  cases a with
  | ok => simp [settlePin_ok, hs] at hc
  | err d => cases hc; rfl

/-- A transfer leaves the line alone, and only its error completes (R25). -/
theorem transferCommand_line {s : State} {f : Frame} {a : BusAnswer} {c : Completion} (hs : s.cpl = none)
    (hline : s.csl = .active) (hc : (transferCommand f a s).cpl = some c) :
    (transferCommand f a s).csl = lineAtCompletion c := by
  cases a with
  | ok rx => simp [transferCommand_ok, hs] at hc
  | err d => cases hc; exact hline

theorem transferData_line {s : State} {a : BusAnswer} {c : Completion} (hs : s.cpl = none)
    (hline : s.csl = .active) (hc : (transferData a s).cpl = some c) :
    (transferData a s).csl = lineAtCompletion c := by
  cases a with
  | ok rx => simp [transferData_ok, hs] at hc
  | err d => cases hc; exact hline

/-- From an undriven completion port, an edge that drives a completion leaves the line where the outcome says;
coherence has the line ACTIVE during a transfer. -/
theorem EdgeCase.line {e : Edge} {s t : State} {c : Completion} (h : EdgeCase e s t) (hcoh : Coherent s)
    (hs : s.cpl = none) (hc : t.cpl = some c) : t.csl = lineAtCompletion c := by
  cases h with
  | reset => cases hc
  | wait | accept => simp [hs] at hc
  | cSel a =>
    rw [selectForCommand_eq_settlePin] at hc ⊢
    exact settlePin_line hs hc
  | cXfer f a _ hp =>
    obtain ⟨-, hline⟩ := (coherent_cXfer hp).mp hcoh
    exact transferCommand_line hs hline hc
  | cDesel a =>
    rw [deselectAfterCommand_eq_settlePin] at hc ⊢
    exact settlePin_line hs hc
  | dSel a =>
    rw [selectForData_eq_settlePin] at hc ⊢
    exact settlePin_line hs hc
  | dXfer a _ hp =>
    obtain ⟨-, hline, -⟩ := (coherent_dXfer hp).mp hcoh
    exact transferData_line hs hline hc
  | done r => cases hc; rfl
  | lost d => cases hc; rfl

/-- Settles O48, by the line each completing edge leaves. -/
theorem lineAtCompletionByOutcome : Obligations.LineAtCompletionByOutcome :=
  fun s _ _ rest _ hcoh hin h hc => (edgeCase_of_step hin h).line (s := atEdge rest s) hcoh rfl hc

/-! ### Six answers -/

theorem Phase.code_lt_seven {p : Phase} (h : p ≠ .seven) : p.code.toNat < 7 := by
  cases p with
  | seven => exact absurd rfl h
  | idle | cSel | cXfer | cDesel | dSel | dXfer | dDesel => decide

theorem Phase.one_le_code {p : Phase} (h : p ≠ .idle) : 1 ≤ p.code.toNat := by
  cases p with
  | idle => exact absurd rfl h
  | cSel | cXfer | cDesel | dSel | dXfer | dDesel | seven => decide

/-- The edge from `s` to `t` ends the operation with a completion, or takes it to its next phase. -/
def Progress (s t : State) : Prop := (t.ph = .idle ∧ t.cpl.isSome = true) ∨ s.ph.next? = some t.ph

/-- An edge without reset that answers both ports. -/
def Edge.Answers (e : Edge) : Prop := e.rst = false ∧ e.pin.isSome = true ∧ e.bus.isSome = true

section
variable {s : State} {e : Edge} {rest : List Input}

theorem PinPhase.progress {p q : Phase} {l : Level} {a : PinAnswer} (h : PinPhase p l q) (hp : s.ph = p)
    (hin : s.inputs = .edge e :: rest) (hr : e.rst = false) (ha : e.pin = some a) :
    ∃ t, step s = .next t ∧ Progress s t := by
  refine ⟨_, h.step_eq hp hin hr ha, ?_⟩
  cases a with
  | ok => exact .inr (hp ▸ h.next?)
  | err c => exact .inl ⟨rfl, rfl⟩

/-- In a coherent state with an operation in progress, an answer to the outstanding primitive makes progress. -/
theorem progress_of_answers (hc : Coherent s) (hb : s.ph ≠ .idle) (hin : s.inputs = .edge e :: rest)
    (he : e.Answers) : ∃ t, step s = .next t ∧ Progress s t := by
  obtain ⟨hr, hpin, hbus⟩ := he
  obtain ⟨a, ha⟩ := Option.isSome_iff_exists.mp hpin
  obtain ⟨b, hba⟩ := Option.isSome_iff_exists.mp hbus
  have goesOn {p : Phase} (hp : s.ph = p) : s.ph.next? = p.next? := congrArg _ hp
  cases hp : s.ph with
  | idle => exact absurd hp hb
  | cSel => exact PinPhase.cSel.progress hp hin hr ha
  | cXfer =>
    obtain ⟨f, hf⟩ := exists_commandFrame s.cfg (hc.opr_ne_three hp (by decide))
    refine ⟨_, step_cXfer hp hf hin hr hba, ?_⟩
    cases b with
    | ok rx => exact .inr (goesOn hp)
    | err c => exact .inl ⟨rfl, rfl⟩
  | cDesel => exact PinPhase.cDesel.progress hp hin hr ha
  | dSel => exact PinPhase.dSel.progress hp hin hr ha
  | dXfer =>
    refine ⟨_, step_dXfer hp hin hr hba, ?_⟩
    cases b with
    | ok rx => exact .inr (goesOn hp)
    | err c => exact .inl ⟨rfl, rfl⟩
  | dDesel =>
    cases a with
    | ok =>
      obtain ⟨r, hpost⟩ := Option.isSome_iff_exists.mp
        (post_isSome s.cfg s.opr s.rsp (hc.opr_ne_three hp (by decide)))
      exact ⟨_, step_dDesel_ok hp hin hr ha hpost, .inl ⟨rfl, rfl⟩⟩
    | err c => exact ⟨_, step_dDesel_err hp hin hr ha, .inl ⟨rfl, rfl⟩⟩
  | seven => exact absurd hp hc.ph_ne_seven

end

/-- Enough answering edges for the phases left complete the operation: each ends it or raises the code of PH, which
stays below 7. -/
theorem exists_completion (es : List Edge) {s : State} {rest : List Input} (hc : Coherent s) (hb : s.ph ≠ .idle)
    (hlen : 7 ≤ s.ph.code.toNat + es.length) (hes : ∀ e ∈ es, e.Answers)
    (hin : s.inputs = es.map Input.edge ++ rest) :
    ∃ k t, k ≤ es.length ∧ Host.Core.run Sys2Proof.core k s = .next t ∧ t.ph = .idle ∧ t.cpl.isSome = true := by
  induction es generalizing s with
  | nil =>
    have := Phase.code_lt_seven hc.ph_ne_seven
    simp at hlen
    omega
  | cons e es ih =>
    obtain ⟨t, ht, hprog⟩ := progress_of_answers hc hb hin (hes e (by simp))
    rcases hprog with ⟨hidle, hcpl⟩ | hnext
    · exact ⟨1, t, by simp, run_succ_of_next ht, hidle, hcpl⟩
    · obtain ⟨-, -, hbusy, -⟩ := Phase.next?_ends hnext
      have hcode := Phase.next?_code hnext
      have hrest : t.inputs = es.map Input.edge ++ rest := by rw [step_inputs ht, hin]; rfl
      obtain ⟨k, u, hk, hrun, hu⟩ := ih (stepKeepsCoherence s t hc ht) hbusy (by simp at hlen; omega)
        (fun e' he' => hes e' (by simp [he'])) hrest
      exact ⟨k + 1, u, by simpa using hk, (run_succ_of_next ht).trans hrun, hu⟩

/-- Settles O52: a busy PH is at least 1, so six answers reach the end. -/
theorem operationCompletesWithinSixAnswers : Obligations.OperationCompletesWithinSixAnswers := by
  intro s es rest hc hb hlen hes hin
  have hcode := Phase.one_le_code hb
  obtain ⟨k, t, hk, hrun, ht⟩ := exists_completion es hc hb (by omega) hes hin
  exact ⟨k, t, hlen ▸ hk, hrun, ht⟩

end Sys2Proof.Machine
end

section
/-! PROOFS. An operation carried out edge by edge (R47, R90, R101, R114): the primitives its block holds, and the
refinement of the blocking read, phase by phase from the last to the first. -/

namespace Sys2Proof.Machine

/-! ### Counting the primitives of a block -/

/-- What counts neither the acceptance nor the completion counts the primitives issued. -/
theorem countP_operationBlock {p : Event → Bool} (hacc : ∀ op, p (.accept op) = false)
    (hcpl : ∀ c, p (.complete c) = false) (cfg : Config) (op : OpCode) (sc : Script) :
    (operationBlock cfg op sc).countP p = (issued ((commandFrame cfg op).getD nopFrame) sc).countP p := by
  cases hop : operation cfg op sc <;> simp [operationBlock, hop, hacc, hcpl, List.countP_append]

/-- Settles O51, by the primitives issued up to the first error. -/
theorem primitivesByFirstError : Obligations.PrimitivesByFirstError := by
  intro cfg op sc n
  have count {p b : Nat}
      (h : (issued ((commandFrame cfg op).getD nopFrame) sc).countP Event.isPinSet = p ∧
        (issued ((commandFrame cfg op).getD nopFrame) sc).countP Event.isBusXfer = b) : n p b := by
    obtain ⟨hp, hb⟩ := h
    exact ⟨(countP_operationBlock (fun _ => rfl) (fun _ => rfl) cfg op sc).trans hp,
      (countP_operationBlock (fun _ => rfl) (fun _ => rfl) cfg op sc).trans hb⟩
  refine ⟨fun c h1 => count ?_, fun c h1 h2 => count ?_, fun x c h1 h2 h3 => count ?_,
    fun x c h1 h2 h3 h4 => count ?_, fun x c h1 h2 h3 h4 h5 => count ?_, fun x y h1 h2 h3 h4 h5 => count ?_⟩
  · rw [issued, h1]
    exact ⟨rfl, rfl⟩
  · rw [issued, h1, h2]
    exact ⟨rfl, rfl⟩
  · rw [issued, h1, h2, h3]
    exact ⟨rfl, rfl⟩
  · rw [issued, h1, h2, h3, h4]
    exact ⟨rfl, rfl⟩
  · rw [issued, h1, h2, h3, h4, h5]
    exact ⟨rfl, rfl⟩
  · rw [issued, h1, h2, h3, h4, h5]
    cases sc.dDesel with
    | ok | err => exact ⟨rfl, rfl⟩

/-! ### The rest of an operation -/

/-- The completion an outcome of the engine gives (R114). -/
def completionOf (c : Config) (op : OpCode) : Except OpError Frame → Option Completion
  | .error (.bus e) => some (.busErr e)
  | .error (.cs e)  => some (.csErr e)
  | .ok v           => (post c op v).map Completion.ok

theorem operation_eq_completionOf (c : Config) (op : OpCode) (sc : Script) :
    operation c op sc = completionOf c op (engineRead sc) := by
  unfold operation completionOf
  rcases engineRead sc with (_ | _) | _ <;> rfl

/-- An edge that neither resets nor presents a request. -/
def Edge.Quiet (e : Edge) : Prop := e.rst = false ∧ e.req = none

/-- From `s` the edges `es` carry out the rest of an operation: the machine ends in IDLE with `rest` still to come,
the history has grown by the primitives `evs` and one completion, that of the engine outcome `m`, and the line is
where the completion says. -/
def Finishes (s : State) (es : List Edge) (rest : List Input) (m : Except OpError Frame) (evs : List Event) :
    Prop :=
  ∃ t c, Host.Core.run Sys2Proof.core es.length s = .next t ∧ completionOf s.cfg s.opr m = some c ∧
    t.ph = .idle ∧ t.events = .complete c :: (evs.reverse ++ s.events) ∧ t.csl = lineAtCompletion c ∧
    t.inputs = rest ∧ t.cfg = s.cfg ∧ t.formed = s.formed

/-- In IDLE, quiet edges are waited out. -/
theorem run_idle (es : List Edge) {s : State} {rest : List Input} (hp : s.ph = .idle)
    (hin : s.inputs = es.map Input.edge ++ rest) (hes : ∀ e ∈ es, e.Quiet) :
    ∃ t, Host.Core.run Sys2Proof.core es.length s = .next t ∧ t.ph = .idle ∧ t.events = s.events ∧
      t.csl = s.csl ∧ t.inputs = rest ∧ t.cfg = s.cfg ∧ t.formed = s.formed := by
  induction es generalizing s with
  | nil => exact ⟨s, run_zero s, hp, rfl, rfl, hin, rfl, rfl⟩
  | cons e es ih =>
    obtain ⟨hr, hq⟩ := hes e (by simp)
    have hstep : step s = .next (atEdge (es.map Input.edge ++ rest) s) := by
      rw [step_of_edge hin]
      exact act_edge_wait (s := atEdge _ s) hr (by simp [hp]) (fun _ => hq) (by simp [pinReq, hp])
        (by simp [busReq, hp])
    obtain ⟨t, hrun, ht⟩ := ih (s := atEdge _ s) hp rfl fun e' he' => hes e' (by simp [he'])
    exact ⟨t, (run_succ_of_next hstep).trans hrun, ht⟩

section
variable {s u : State} {e : Edge} {es : List Edge} {rest : List Input} {m : Except OpError Frame}
  {ev : Event} {evs : List Event} {c : Completion}

/-- The step that completes the operation, with primitive `ev`, is its last one; the edges left find it in IDLE. -/
theorem Finishes.last (hstep : step s = .next u) (hm : completionOf s.cfg s.opr m = some c) (hp : u.ph = .idle)
    (hev : u.events = .complete c :: ev :: s.events) (hline : u.csl = lineAtCompletion c)
    (hin : u.inputs = es.map Input.edge ++ rest) (hcfg : u.cfg = s.cfg) (hformed : u.formed = s.formed)
    (hes : ∀ e' ∈ es, e'.Quiet) : Finishes s (e :: es) rest m [ev] := by
  obtain ⟨t, hrun, htp, htev, htl, htin, htcfg, htf⟩ := run_idle es hp hin hes
  exact ⟨t, c, (run_succ_of_next hstep).trans hrun, hm, htp, htev.trans hev, htl.trans hline, htin,
    htcfg.trans hcfg, htf.trans hformed⟩

/-- A step that answers primitive `ev` and leaves the operation in progress comes before the rest of it. -/
theorem Finishes.cons (hstep : step s = .next u) (hev : u.events = ev :: s.events) (hcfg : u.cfg = s.cfg)
    (hopr : u.opr = s.opr) (hformed : u.formed = s.formed) (h : Finishes u es rest m evs) :
    Finishes s (e :: es) rest m (ev :: evs) := by
  obtain ⟨t, c, hrun, hm, htp, htev, htl, htin, htcfg, htf⟩ := h
  refine ⟨t, c, (run_succ_of_next hstep).trans hrun, by rwa [hcfg, hopr] at hm, htp, ?_, htl, htin,
    htcfg.trans hcfg, htf.trans hformed⟩
  simp [htev, hev]

/-! ### Phase by phase -/

/-- A pin operation that does not end the operation: on `Ok` the rest follows, on `Err` nothing does. -/
theorem Finishes.pin {p q : Phase} {l : Level} {a : PinAnswer} (h : PinPhase p l q) (hp : s.ph = p)
    (hin : s.inputs = .edge e :: (es.map Input.edge ++ rest)) (he : e.answersPin a) (hes : ∀ e' ∈ es, e'.Quiet)
    (hok : Finishes (settlePin l q .ok (atEdge (es.map Input.edge ++ rest) s)) es rest m evs) :
    Finishes s (e :: es) rest (afterPin a m) (issuePin l a evs) := by
  obtain ⟨hr, -, ha⟩ := he
  have hstep := h.step_eq hp hin hr ha
  cases a with
  | ok => exact .cons hstep rfl rfl rfl rfl hok
  | err c => exact .last hstep rfl rfl rfl rfl rfl rfl rfl hes

/-- The transfer of the command frame: the bits clocked back do not matter for the rest (R93). -/
theorem Finishes.cXfer {f : Frame} {a : BusAnswer} (hp : s.ph = .cXfer)
    (hf : commandFrame s.cfg s.opr = some f) (hline : s.csl = .active)
    (hin : s.inputs = .edge e :: (es.map Input.edge ++ rest)) (he : e.answersBus a) (hes : ∀ e' ∈ es, e'.Quiet)
    (hok : ∀ rx, Finishes (transferCommand f (.ok rx) (atEdge (es.map Input.edge ++ rest) s)) es rest m evs) :
    Finishes s (e :: es) rest (afterBus a fun _ => m) (issueBus f a evs) := by
  obtain ⟨hr, -, ha⟩ := he
  have hstep := step_cXfer hp hf hin hr ha
  cases a with
  | ok rx => exact .cons hstep rfl rfl rfl rfl (hok rx)
  | err c => exact .last hstep rfl rfl rfl hline rfl rfl rfl hes

/-- The transfer of the nop: the rest works on the bits clocked back (R96). -/
theorem Finishes.dXfer {a : BusAnswer} {k : Frame → Except OpError Frame} (hp : s.ph = .dXfer)
    (hline : s.csl = .active) (hin : s.inputs = .edge e :: (es.map Input.edge ++ rest)) (he : e.answersBus a)
    (hes : ∀ e' ∈ es, e'.Quiet)
    (hok : ∀ rx, Finishes (transferData (.ok rx) (atEdge (es.map Input.edge ++ rest) s)) es rest (k rx) evs) :
    Finishes s (e :: es) rest (afterBus a k) (issueBus nopFrame a evs) := by
  obtain ⟨hr, -, ha⟩ := he
  have hstep := step_dXfer hp hin hr ha
  cases a with
  | ok rx => exact .cons hstep rfl rfl rfl rfl (hok rx)
  | err c => exact .last hstep rfl rfl rfl hline rfl rfl rfl hes

/-- The last deassertion: on `Ok` the operation completes with POST of RSP (R97). -/
theorem Finishes.dDesel {a : PinAnswer} (hp : s.ph = .dDesel) (hopr : s.opr ≠ 3)
    (hin : s.inputs = .edge e :: rest) (he : e.answersPin a) :
    Finishes s [e] rest (afterPin a (.ok s.rsp)) (issuePin .inactive a []) := by
  obtain ⟨hr, -, ha⟩ := he
  cases a with
  | ok =>
    obtain ⟨r, hpost⟩ := Option.isSome_iff_exists.mp (post_isSome s.cfg s.opr s.rsp hopr)
    have hm : completionOf s.cfg s.opr (.ok s.rsp) = some (.ok r) := by simp [completionOf, hpost]
    exact .last (step_dDesel_ok hp hin hr ha hpost) hm rfl rfl rfl rfl rfl rfl (by simp)
  | err c => exact .last (step_dDesel_err hp hin hr ha) rfl rfl rfl rfl rfl rfl rfl (by simp)

end

/-! ### The whole operation -/

/-- From C_SEL the six answers of a script carry out the blocking read. -/
theorem finishes_script {s : State} {f : Frame} {sc : Script} {es : OperationEdges} {rest : List Input}
    (hp : s.ph = .cSel) (hopr : s.opr ≠ 3) (hf : commandFrame s.cfg s.opr = some f)
    (hes : es.carry s.opr sc)
    (hin : s.inputs = [es.cSel, es.cXfer, es.cDesel, es.dSel, es.dXfer, es.dDesel].map Input.edge ++ rest) :
    Finishes s [es.cSel, es.cXfer, es.cDesel, es.dSel, es.dXfer, es.dDesel] rest (engineRead sc)
      (issued f sc) := by
  obtain ⟨-, -, h1, h2, h3, h4, h5, h6⟩ := hes
  have quietPin {e : Edge} {a : PinAnswer} : e.answersPin a → e.Quiet := fun ⟨hr, hq, _⟩ => ⟨hr, hq⟩
  have quietBus {e : Edge} {a : BusAnswer} : e.answersBus a → e.Quiet := fun ⟨hr, hq, _⟩ => ⟨hr, hq⟩
  have q2 : ∀ e ∈ [es.cXfer, es.cDesel, es.dSel, es.dXfer, es.dDesel], e.Quiet := by
    simp [quietBus h2, quietPin h3, quietPin h4, quietBus h5, quietPin h6]
  obtain ⟨-, q3⟩ := List.forall_mem_cons.mp q2
  obtain ⟨-, q4⟩ := List.forall_mem_cons.mp q3
  obtain ⟨-, q5⟩ := List.forall_mem_cons.mp q4
  obtain ⟨-, q6⟩ := List.forall_mem_cons.mp q5
  refine .pin .cSel hp hin h1 q2 ?_
  refine .cXfer rfl hf rfl rfl h2 q3 fun rxc => ?_
  refine .pin .cDesel rfl rfl h3 q4 ?_
  refine .pin .dSel rfl rfl h4 q5 ?_
  refine .dXfer rfl rfl rfl h5 q6 fun rxd => ?_
  exact .dDesel rfl hopr rfl h6

/-- Settles O50: the request opens the operation, and the six answers finish it. -/
theorem operationRefinesBlockingRead : Obligations.OperationRefinesBlockingRead := by
  intro s op sc es rest hop hp hes hin
  have ⟨hr, hq, _⟩ := hes
  obtain ⟨f, hf⟩ := exists_commandFrame s.cfg hop
  obtain ⟨t, c, hrun, hm, htp, htev, htl, htin, htcfg, htf⟩ :=
    finishes_script (s := { atEdge _ s with opr := op, ph := .cSel, events := .accept op :: s.events })
      rfl hop hf hes rfl
  have hc : operation s.cfg op sc = some c := (operation_eq_completionOf s.cfg op sc).trans hm
  refine ⟨t, c, (run_succ_of_next (step_of_request hin hp hr hq hop)).trans hrun, hc, htp, ?_, htl, htin,
    htcfg, htf⟩
  simp [htev, operationBlock, hc, hf]

end Sys2Proof.Machine
end

section
/-! PROOFS. What a response does not reach (R63, R103, R153): no step reads the history, so a record of it stays where
it is; POST does not read the status bits. -/

namespace Sys2Proof.Machine

/-! ### No step reads the history -/

/-- An outcome as a function of the history the run has so far: it puts new events on top of whatever is there, or
begins anew, or stops, the same for every history. -/
inductive BlindToHistory (F : List Event → Host.Outcome State Fault Refusal) : Prop where
  | extend (t : State) (new : List Event) (h : ∀ es, F es = .next (t.setEvents (new ++ es)))
  | restart (t : State) (h : ∀ es, F es = .next t)
  | fault (r : Fault) (h : ∀ es, F es = .fault r)
  | refused (r : Refusal) (h : ∀ es, F es = .refused r)

theorem next_blind (s : State) : BlindToHistory fun es => .next (s.setEvents es) :=
  .extend s [] fun _ => rfl

theorem form_blind (f : Frame) (s : State) : BlindToHistory fun es => form f (s.setEvents es) :=
  .extend (s.setFormed (some f)) [] fun _ => rfl

theorem accept_blind (op : OpCode) (s : State) : BlindToHistory fun es => accept op (s.setEvents es) := by
  by_cases hp : s.ph = .idle
  · exact .extend ((s.setOpr op).setPh .cSel) [.accept op] fun es => accept_idle op (s.setEvents es) hp
  · by_cases h7 : s.ph = .seven
    · exact .fault .phaseSeven fun es => accept_seven (s := s.setEvents es) h7 op
    · exact .extend s [] fun es => accept_busy op (s.setEvents es) hp h7

theorem settlePin_blind (l : Level) (q : Phase) (a : PinAnswer) (s : State) :
    BlindToHistory fun es => .next (settlePin l q a (s.setEvents es)) := by
  cases a with
  | ok => exact .extend (settlePin l q .ok s) [.pinSet l .ok] fun _ => rfl
  | err c => exact .extend (settlePin l q (.err c) s) [.complete (.csErr c), .pinSet l (.err c)] fun _ => rfl

theorem pinAnswered_blind (a : PinAnswer) (s : State) : BlindToHistory fun es => pinAnswered a (s.setEvents es) := by
  have onPinPhase {p q : Phase} {l : Level} (h : PinPhase p l q) (hp : s.ph = p) :
      BlindToHistory fun es => pinAnswered a (s.setEvents es) := by
    have heq : (fun es => pinAnswered a (s.setEvents es)) = fun es => .next (settlePin l q a (s.setEvents es)) :=
      funext fun es => h.pinAnswered (s := s.setEvents es) hp a
    exact heq ▸ settlePin_blind l q a s
  cases hp : s.ph with
  | idle | cXfer | dXfer => exact .extend s [] fun es => by simp [pinAnswered, hp]
  | cSel => exact onPinPhase .cSel hp
  | cDesel => exact onPinPhase .cDesel hp
  | dSel => exact onPinPhase .dSel hp
  | dDesel =>
    cases a with
    | ok =>
      cases hpost : post s.cfg s.opr s.rsp with
      | none => exact .fault .operationThree fun es => by simp [pinAnswered, hp, hpost]
      | some r =>
        exact .extend (completeRead r s) [.complete (.ok r), .pinSet .inactive .ok] fun es =>
          pinAnswered_dDesel_ok (s := s.setEvents es) hp hpost
    | err c =>
      exact .extend (failFinalDeselect c s) [.complete (.csErr c), .pinSet .inactive (.err c)] fun es =>
        pinAnswered_dDesel_err (s := s.setEvents es) hp c
  | seven => exact .fault .phaseSeven fun es => by simp [pinAnswered, hp]

theorem busAnswered_blind (a : BusAnswer) (s : State) : BlindToHistory fun es => busAnswered a (s.setEvents es) := by
  cases hp : s.ph with
  | idle | cSel | cDesel | dSel | dDesel => exact .extend s [] fun es => by simp [busAnswered, hp]
  | cXfer =>
    cases hf : commandFrame s.cfg s.opr with
    | none => exact .fault .operationThree fun es => by simp [busAnswered, hp, hf]
    | some f =>
      cases a with
      | ok rx =>
        exact .extend (transferCommand f (.ok rx) s) [.busXfer f (.ok rx)] fun es =>
          busAnswered_cXfer (s := s.setEvents es) hp hf _
      | err c =>
        exact .extend (transferCommand f (.err c) s) [.complete (.busErr c), .busXfer f (.err c)] fun es =>
          busAnswered_cXfer (s := s.setEvents es) hp hf _
  | dXfer =>
    cases a with
    | ok rx =>
      exact .extend (transferData (.ok rx) s) [.busXfer nopFrame (.ok rx)] fun es =>
        busAnswered_dXfer (s := s.setEvents es) hp _
    | err c =>
      exact .extend (transferData (.err c) s) [.complete (.busErr c), .busXfer nopFrame (.err c)] fun es =>
        busAnswered_dXfer (s := s.setEvents es) hp _
  | seven => exact .fault .phaseSeven fun es => busAnswered_seven (s := s.setEvents es) hp a

/-- RESET empties the history, whatever it was (R140). -/
theorem exec_reset_setEvents (s : State) (es : List Event) : exec .reset (s.setEvents es) = exec .reset s := rfl

theorem exec_blind (i : Instr) (s : State) : BlindToHistory fun es => exec i (s.setEvents es) := by
  cases i with
  | rddg => exact accept_blind 0 s
  | rdmag => exact accept_blind 1 s
  | rdang => exact accept_blind 2 s
  | reserved3 => exact .refused .reservedRequest fun _ => rfl
  | reset => exact .restart _ fun es => (exec_reset_setEvents s es).trans (exec_reset s)
  | enc p a => exact form_blind (enc a) s
  | encClearErrorFlag => exact form_blind (encr s.cfg .clearErrorFlag) s
  | encProgrammingControl => exact form_blind (encr s.cfg .programmingControl) s
  | encOtpZeroPosHigh => exact form_blind (encr s.cfg .otpZeroPosHigh) s
  | encOtpZeroPosLow => exact form_blind (encr s.cfg .otpZeroPosLow) s
  | encDiagAgc => exact form_blind (encr s.cfg .diagAgc) s
  | encMagnitude => exact form_blind (encr s.cfg .magnitude) s
  | encAngle => exact form_blind (encr s.cfg .angle) s
  | nop => exact form_blind nopFrame s
  | rsp st val => exact busAnswered_blind (.ok (responseFrame st val)) s

theorem act_blind (a : Action) (s : State) : BlindToHistory fun es => act a (s.setEvents es) := by
  cases a with
  | run i => exact exec_blind i s
  | pin a => exact pinAnswered_blind a s
  | busError c => exact busAnswered_blind (.err c) s
  | wait => exact next_blind s
  | stuck => exact .fault .phaseSeven fun _ => rfl
  | undecodable e => exact .refused (.undecodable e) fun _ => rfl

theorem taken_setEvents (inp : Input) (rest : List Input) (s : State) (es : List Event) :
    taken inp rest (s.setEvents es) = (taken inp rest s).setEvents es := by
  cases inp <;> rfl

theorem fetch_setEvents (inp : Input) (s : State) (es : List Event) : fetch (s.setEvents es) inp = fetch s inp := by
  cases inp <;> rfl

theorem step_blind (s : State) : BlindToHistory fun es => step (s.setEvents es) := by
  simpa only [step, State.setEvents_inputs, taken_setEvents, fetch_setEvents] using act_blind _ _

/-! ### Runs that differ in one record -/

section
variable {e e' : Event} {old : List Event}

theorem agreeButRecord_refl (o : Host.Outcome State Fault Refusal) : AgreeButRecord e e' old o o := by
  cases o with
  | next t => exact ⟨rfl, .inl rfl⟩
  | fault r => rfl
  | refused r => rfl

/-- What is blind to the history keeps the record where it is, whatever came on top of it. -/
theorem BlindToHistory.agree {F : List Event → Host.Outcome State Fault Refusal} (h : BlindToHistory F)
    (later : List Event) : AgreeButRecord e e' old (F (later ++ e :: old)) (F (later ++ e' :: old)) := by
  cases h with
  | extend t new h =>
    rw [h, h]
    exact ⟨rfl, .inr ⟨new ++ later, by simp, by simp⟩⟩
  | restart t h =>
    rw [h, h]
    exact agreeButRecord_refl _
  | fault r h =>
    rw [h, h]
    exact agreeButRecord_refl _
  | refused r h =>
    rw [h, h]
    exact agreeButRecord_refl _

/-- Of two states that differ in the history only, one is the other with its own history. -/
theorem setEvents_of_fields {s s' : State} (h : s.setEvents [] = s'.setEvents []) : s.setEvents s'.events = s' :=
  calc s.setEvents s'.events
    _ = (s.setEvents []).setEvents s'.events := rfl
    _ = (s'.setEvents []).setEvents s'.events := by rw [h]
    _ = s' := rfl

theorem step_agree {s s' : State} (h : AgreeButRecord e e' old (.next s) (.next s')) :
    AgreeButRecord e e' old (step s) (step s') := by
  obtain ⟨hfields, hevents⟩ := h
  have hs : s = s.setEvents s.events := rfl
  rcases hevents with heq | ⟨later, hl, hl'⟩
  · rw [← setEvents_of_fields hfields, ← heq, ← hs]
    exact agreeButRecord_refl _
  · rw [← setEvents_of_fields hfields, hl', hs, hl]
    exact (step_blind s).agree later

/-- One more step in front: steps that agree go on to states that agree, or stop alike. -/
theorem run_succ_agree {k : Nat} {s s' : State} (h : AgreeButRecord e e' old (step s) (step s'))
    (hk : ∀ t t', AgreeButRecord e e' old (.next t) (.next t') →
      AgreeButRecord e e' old (Host.Core.run Sys2Proof.core k t) (Host.Core.run Sys2Proof.core k t')) :
    AgreeButRecord e e' old (Host.Core.run Sys2Proof.core (k + 1) s) (Host.Core.run Sys2Proof.core (k + 1) s') := by
  cases ho : step s with
  | next t =>
    cases ho' : step s' with
    | next t' =>
      rw [run_succ_of_next ho, run_succ_of_next ho']
      exact hk t t' (by rwa [ho, ho'] at h)
    | fault | refused => rw [ho, ho'] at h; exact h.elim
  | fault r =>
    cases ho' : step s' with
    | fault r' =>
      rw [run_succ_of_fault ho, run_succ_of_fault ho']
      rwa [ho, ho'] at h
    | next | refused => rw [ho, ho'] at h; exact h.elim
  | refused r =>
    cases ho' : step s' with
    | refused r' =>
      rw [run_succ_of_refused ho, run_succ_of_refused ho']
      rwa [ho, ho'] at h
    | next | fault => rw [ho, ho'] at h; exact h.elim

/-- Runs from states that agree stay in agreement, however long. -/
theorem run_agree (k : Nat) (s s' : State) (h : AgreeButRecord e e' old (.next s) (.next s')) :
    AgreeButRecord e e' old (Host.Core.run Sys2Proof.core k s) (Host.Core.run Sys2Proof.core k s') := by
  induction k generalizing s s' with
  | zero => exact h
  | succ k ih => exact run_succ_agree (step_agree h) ih

end

/-- The step at an edge that brings a response frame for the outstanding transfer: reset wins over it (R126). -/
theorem step_of_response {s : State} (hp : s.ph = .cXfer ∨ s.ph = .dXfer) (e : Edge) (rest : List Input)
    (rx : Frame) : step { s with inputs := .edge { e with bus := some (.ok rx) } :: rest } =
      if e.rst = true then exec .reset (atEdge rest s) else busAnswered (.ok rx) (atEdge rest s) := by
  rw [step_of_edge rfl]
  split
  next hr => exact act_edge_reset (e := { e with bus := some (.ok rx) }) hr _
  next hr => exact act_edge_bus (e := { e with bus := some (.ok rx) }) (by simpa using hr) hp _

/-- The command phase's transfer clocks bits back into the history only; without a command frame it stops. -/
theorem busAnswered_cXfer_agree {s : State} (hp : s.ph = .cXfer) (rx rx' : Frame) :
    let f := (commandFrame s.cfg s.opr).getD nopFrame
    AgreeButRecord (.busXfer f (.ok rx)) (.busXfer f (.ok rx')) s.events (busAnswered (.ok rx) s)
      (busAnswered (.ok rx') s) := by
  by_cases h3 : s.opr = 3
  · rw [busAnswered_cXfer_three hp h3, busAnswered_cXfer_three hp h3]
    exact agreeButRecord_refl _
  · obtain ⟨f, hf⟩ := exists_commandFrame s.cfg h3
    rw [busAnswered_cXfer hp hf, busAnswered_cXfer hp hf, hf]
    exact ⟨rfl, .inr ⟨[], rfl, rfl⟩⟩

/-- Settles O54: the first steps agree, and so does whatever follows. -/
theorem commandPhaseAnswerReachesNothing : Obligations.CommandPhaseAnswerReachesNothing := by
  intro k s e rest rx rx' hp f
  refine run_succ_agree ?_ (run_agree k)
  rw [step_of_response (.inl hp), step_of_response (.inl hp)]
  split
  · exact agreeButRecord_refl _
  · exact busAnswered_cXfer_agree (s := atEdge rest s) hp rx rx'

/-! ### The status bits of the response -/

theorem respDiag_eq_respVal (v : Frame) : respDiag v = (respVal v).extractLsb' 8 4 := by
  apply BitVec.eq_of_getLsbD_eq
  intro i hi
  simp [respDiag, respVal, hi]

theorem respGain_eq_respVal (v : Frame) : respGain v = (respVal v).extractLsb' 0 8 := by
  apply BitVec.eq_of_getLsbD_eq
  intro i hi
  simp [respGain, respVal, hi]

/-- POST reads only the 14 content bits of the response, RDDG in the default layout (R110, C1). -/
theorem post_congr_respVal {c : Config} {op : OpCode} {v w : Frame} (hdg : op = 0 → c.dgSplit = .scenario)
    (h : respVal v = respVal w) : post c op v = post c op w := by
  rcases opCode_cases op with rfl | rfl | rfl | rfl
  · simp only [post_zero_scenario c _ (hdg rfl), respDiag_eq_respVal, respGain_eq_respVal, h]
  · simp only [post_value c 1 _ (.inl rfl), h]
  · simp only [post_value c 2 _ (.inr rfl), h]
  · rfl

theorem run_two_of_next {s t u : State} (hs : step s = .next t) (ht : step t = .next u) :
    Host.Core.run Sys2Proof.core 2 s = .next u := by
  rw [run_succ_of_next hs, run_succ_of_next ht, run_zero]

/-- Settles O55: the response is captured, and the last deassertion completes with POST of its content bits or with
the pin driver's error. -/
theorem statusBitsDoNotReachCompletion : Obligations.StatusBitsDoNotReachCompletion := by
  intro s e e' rest st st' val a hp hopr hdg hr hr' ha
  have captured (v : Frame) : step { s with inputs := .edge { e with bus := some (.ok v) } :: .edge e' :: rest } =
      .next (transferData (.ok v) (atEdge (.edge e' :: rest) s)) := by
    rw [step_of_response (.inr hp), if_neg (by simp [hr])]
    exact busAnswered_dXfer (s := atEdge _ s) hp _
  cases a with
  | ok =>
    obtain ⟨r, hpost⟩ := Option.isSome_iff_exists.mp (post_isSome s.cfg s.opr (responseFrame st val) hopr)
    have hpost' : post s.cfg s.opr (responseFrame st' val) = some r := by
      rw [← hpost]
      exact post_congr_respVal hdg (by simp)
    exact ⟨_, _, run_two_of_next (captured _) (step_dDesel_ok rfl rfl hr' ha hpost),
      run_two_of_next (captured _) (step_dDesel_ok rfl rfl hr' ha hpost'), by simp [completeRead_eq]⟩
  | err c =>
    exact ⟨_, _, run_two_of_next (captured _) (step_dDesel_err rfl rfl hr' ha),
      run_two_of_next (captured _) (step_dDesel_err rfl rfl hr' ha), by simp [failFinalDeselect_eq]⟩

end Sys2Proof.Machine
end

section
/-! PROOFS. Response post-processing (R110, R111) and its packing on the completion port (R116): POST with the
document's literals in the fields of the response, RDDG's twelve content bits, and the packed result as a mask. -/

namespace Sys2Proof.Machine

/-! ### POST with the document's literals -/

theorem post_zero_scenario_source {c : Config} (v : Frame) (hl : c.lits = .source) (h : c.dgSplit = .scenario) :
    post c 0 v = some (.diagGain (respDiag v) (respGain v)) := by
  have hmask : (Literals.source.diagBound - 1).setWidth 4 = BitVec.allOnes 4 := by decide
  rw [post_zero_scenario c v h, hl, hmask, BitVec.and_allOnes]

/-- POST for RDDG with the losing layout of conflict C1 (R111). -/
theorem post_zero_prose_source {c : Config} (v : Frame) (hl : c.lits = .source) (h : c.dgSplit = .prose) :
    post c 0 v = some (.diagGain (v.extractLsb' 0 4) (v.extractLsb' 8 8)) := by
  simp [post, h, hl, lowDiag_source, respGainProse]

theorem post_value_source {c : Config} {op : OpCode} (v : Frame) (hl : c.lits = .source) (h : op = 1 ∨ op = 2) :
    post c op v = some (.value (respVal v)) := by
  have hmask : Literals.source.valueMask.setWidth 14 = BitVec.allOnes 14 := by decide
  rw [post_value c op v h, hl, hmask, BitVec.and_allOnes]

/-! ### The twelve bits RDDG reads -/

theorem respDiag_eq_extractLsb' (v : Frame) : respDiag v = (v.extractLsb' 0 12).extractLsb' 8 4 :=
  (BitVec.extractLsb'_extractLsb'_of_le (by decide)).symm

theorem respGain_eq_extractLsb' (v : Frame) : respGain v = (v.extractLsb' 0 12).extractLsb' 0 8 :=
  (BitVec.extractLsb'_extractLsb'_of_le (by decide)).symm

/-- RDDG in the default layout reads the low twelve bits of the response only (R110, R111). -/
theorem post_zero_congr {c : Config} {v w : Frame} (hdg : c.dgSplit = .scenario)
    (h : v.extractLsb' 0 12 = w.extractLsb' 0 12) : post c 0 v = post c 0 w := by
  simp only [post_zero_scenario c _ hdg, respDiag_eq_extractLsb', respGain_eq_extractLsb', h]

/-- Settles O10: POST in the fields of the response, with the document's literals, and the bits it reads. -/
theorem postProcessing : Obligations.PostProcessing :=
  ⟨fun _ v hl hdg => post_zero_scenario_source v hl hdg,
   fun _ v hl hdg => post_zero_prose_source v hl hdg,
   fun _ v hl => ⟨post_value_source v hl (.inl rfl), post_value_source v hl (.inr rfl)⟩,
   fun _ _ _ _ hdg h => post_congr_respVal (fun _ => hdg) h,
   fun _ _ _ hdg h => post_zero_congr hdg h⟩

/-! ### Packing -/

theorem dataMask_source_zero : dataMask .source 0 = 0x0FFF#16 := by decide

theorem dataMask_source_value {op : OpCode} (h : op = 1 ∨ op = 2) : dataMask .source op = 0x3FFF#16 := by
  rcases h with rfl | rfl <;> rfl

/-- The diag and the gain stand side by side in the response, so packing them gives back its low twelve bits. -/
theorem pack_diagGain (v : Frame) :
    (Reading.diagGain (respDiag v) (respGain v)).pack = (v.extractLsb' 0 12).setWidth 14 := by
  have hjoin : respDiag v ++ respGain v = v.extractLsb' 0 12 :=
    BitVec.extractLsb'_append_extractLsb'_eq_extractLsb' (by decide)
  rw [Reading.pack, hjoin, BitVec.setWidth_eq_append (by decide), BitVec.cast_eq]

/-- RDDG's packed result (R116). -/
theorem pack_diagGain_setWidth (v : Frame) :
    (Reading.diagGain (respDiag v) (respGain v)).pack.setWidth 16 = v &&& dataMask .source 0 := by
  rw [pack_diagGain, BitVec.setWidth_setWidth (by decide), dataMask_source_zero]
  exact setWidth_extractLsb'_eq_and v 0 (by decide)

/-- RDMAG's and RDANG's packed result (R116). -/
theorem pack_value_setWidth (v : Frame) {op : OpCode} (h : op = 1 ∨ op = 2) :
    (Reading.value (respVal v)).pack.setWidth 16 = v &&& dataMask .source op := by
  rw [dataMask_source_value h]
  exact setWidth_extractLsb'_eq_and v 0 (by decide)

/-- Settles O11, by the operation: POST's reading, packed, is the response under the operation's mask. -/
theorem completionDataIsMaskedResponse : Obligations.CompletionDataIsMaskedResponse := by
  refine ⟨fun c op v hop hdg hl => ?_, dataMask_source_zero, dataMask_source_value (.inl rfl),
    dataMask_source_value (.inr rfl)⟩
  rw [hl]
  rcases opCode_cases op with rfl | rfl | rfl | rfl
  · exact ⟨_, post_zero_scenario_source v hl hdg, pack_diagGain_setWidth v⟩
  · exact ⟨_, post_value_source v hl (.inl rfl), pack_value_setWidth v (.inl rfl)⟩
  · exact ⟨_, post_value_source v hl (.inr rfl), pack_value_setWidth v (.inr rfl)⟩
  · exact absurd rfl hop

end Sys2Proof.Machine
end

section
/-! PROOFS. Exceptions (60_exceptions.md): reset and a request beside other inputs (R126), the cause of an error
completion (R133), and the hang of an operation that is never answered (R134). -/

namespace Sys2Proof.Machine

/-! ### Simultaneous inputs -/

/-- Settles O29: an edge with reset raised samples no other port, and RESET leaves IDLE. -/
theorem resetWinsOverOtherInputs : Obligations.ResetWinsOverOtherInputs := by
  intro s e rest hin hr
  have hstep : step s = exec .reset (atEdge rest s) := by rw [step_of_edge hin, act_edge_reset hr]
  exact ⟨hstep, _, hstep.trans (exec_reset _), rfl⟩

/-- Settles O30: D_DESEL samples the pin port only, and the operation's code has a POST. -/
theorem requestAtCompletionIsNotAccepted : Obligations.RequestAtCompletionIsNotAccepted := by
  intro s e rest op hp hopr hin hr ha _
  obtain ⟨r, hpost⟩ := Option.isSome_iff_exists.mp (post_isSome s.cfg s.opr s.rsp hopr)
  exact ⟨_, r, step_dDesel_ok hp hin hr ha hpost, by simp [completeRead_eq]⟩

/-! ### The cause of an error completion -/

/-- The error completion `c` reports the answer that edge `e` brought for the primitive outstanding in `s`; an OK
completion has no cause to report. -/
def Completion.ReportsAnswer (e : Edge) (s : State) : Completion → Prop
  | .ok _     => True
  | .busErr c => busReq s = true ∧ e.bus = some (.err c)
  | .csErr c  => pinReq s = true ∧ e.pin = some (.err c)

section
variable {e : Edge} {s t : State} {c : Completion}

theorem settlePin_completion {l : Level} {q : Phase} {a : PinAnswer} (hs : s.cpl = none)
    (hc : (settlePin l q a s).cpl = some c) : ∃ d, a = .err d ∧ c = .csErr d := by
  cases a with
  | ok => simp [settlePin_ok, hs] at hc
  | err d => cases hc; exact ⟨d, rfl, rfl⟩

theorem transferCommand_completion {f : Frame} {a : BusAnswer} (hs : s.cpl = none)
    (hc : (transferCommand f a s).cpl = some c) : ∃ d, a = .err d ∧ c = .busErr d := by
  cases a with
  | ok rx => simp [transferCommand_ok, hs] at hc
  | err d => cases hc; exact ⟨d, rfl, rfl⟩

theorem transferData_completion {a : BusAnswer} (hs : s.cpl = none)
    (hc : (transferData a s).cpl = some c) : ∃ d, a = .err d ∧ c = .busErr d := by
  cases a with
  | ok rx => simp [transferData_ok, hs] at hc
  | err d => cases hc; exact ⟨d, rfl, rfl⟩

/-- From an undriven completion port, whatever an edge drives reports the answer it brought (R121, R122, R133). -/
theorem EdgeCase.reportsAnswer (h : EdgeCase e s t) (hs : s.cpl = none) (hc : t.cpl = some c) :
    c.ReportsAnswer e s := by
  cases h with
  | reset => cases hc
  | wait | accept => simp [hs] at hc
  | cSel a _ hp ha =>
    rw [selectForCommand_eq_settlePin] at hc
    obtain ⟨d, rfl, rfl⟩ := settlePin_completion hs hc
    exact ⟨by simp [pinReq, hp], ha⟩
  | cXfer f a _ hp ha =>
    obtain ⟨d, rfl, rfl⟩ := transferCommand_completion hs hc
    exact ⟨by simp [busReq, hp], ha⟩
  | cDesel a _ hp ha =>
    rw [deselectAfterCommand_eq_settlePin] at hc
    obtain ⟨d, rfl, rfl⟩ := settlePin_completion hs hc
    exact ⟨by simp [pinReq, hp], ha⟩
  | dSel a _ hp ha =>
    rw [selectForData_eq_settlePin] at hc
    obtain ⟨d, rfl, rfl⟩ := settlePin_completion hs hc
    exact ⟨by simp [pinReq, hp], ha⟩
  | dXfer a _ hp ha =>
    obtain ⟨d, rfl, rfl⟩ := transferData_completion hs hc
    exact ⟨by simp [busReq, hp], ha⟩
  | done => cases hc; trivial
  | lost d _ hp ha => cases hc; exact ⟨by simp [pinReq, hp], ha⟩

end

/-- Settles O47: the edge clears the completion port, and what it then drives reports the answer it brought. -/
theorem causeIsPropagatedUnchanged : Obligations.CauseIsPropagatedUnchanged := by
  intro s t e rest hin h
  have reports {c : Completion} (hc : t.cpl = some c) : c.ReportsAnswer e (atEdge rest s) :=
    (edgeCase_of_step hin h).reportsAnswer rfl hc
  exact ⟨fun _ => reports, fun _ => reports⟩

/-! ### The operation that is never answered -/

/-- A clock edge without reset and without an answer on either port; a request it may bring. -/
def Input.Unanswering (inp : Input) : Prop :=
  ∃ e : Edge, inp = .edge e ∧ e.rst = false ∧ e.pin = none ∧ e.bus = none

/-- Where the completion port drives nothing, taking an edge only takes it off the inputs (R28). -/
theorem atEdge_of_cpl_none {s : State} (hcpl : s.cpl = none) (rest : List Input) :
    atEdge rest s = s.setInputs rest := by
  have hclear : s.setCpl none = s := by rw [← hcpl]; rfl
  rw [atEdge, hclear]

/-- With an operation in progress, a step at such an edge, or with no input left, only takes the edge (R98). -/
theorem step_of_unanswering {s : State} (hb : s.ph ≠ .idle) (h7 : s.ph ≠ .seven) (hcpl : s.cpl = none)
    (hin : ∀ inp ∈ s.inputs, inp.Unanswering) : step s = .next (s.setInputs s.inputs.tail) := by
  obtain ⟨waitEdge, waitNil⟩ := waitsWithoutAnswer
  rw [← atEdge_of_cpl_none hcpl]
  cases hs : s.inputs with
  | nil =>
    rw [List.tail_nil, ← hs]
    exact waitNil s hs h7
  | cons inp rest =>
    obtain ⟨e, rfl, hr, hpin, hbus⟩ := hin inp (by simp [hs])
    exact waitEdge s e rest hs hr h7 (absurd · hb) (fun _ => hpin) (fun _ => hbus)

/-- However many steps are run, nothing but the list of inputs changes. -/
theorem run_of_unanswering (k : Nat) {s : State} (hb : s.ph ≠ .idle) (h7 : s.ph ≠ .seven) (hcpl : s.cpl = none)
    (hin : ∀ inp ∈ s.inputs, inp.Unanswering) :
    Host.Core.run Sys2Proof.core k s = .next (s.setInputs (s.inputs.drop k)) := by
  induction k generalizing s with
  | zero => exact run_zero s
  | succ k ih =>
    rw [run_succ_of_next (step_of_unanswering hb h7 hcpl hin),
      ih (s := s.setInputs s.inputs.tail) hb h7 hcpl fun inp hi => hin inp (List.mem_of_mem_tail hi),
      State.setInputs_inputs, List.drop_tail]
    rfl

/-- Settles O28, by induction on the number of steps. -/
theorem unansweredOperationHangs : Obligations.UnansweredOperationHangs :=
  fun k _ hb h7 hcpl hin => ⟨_, run_of_unanswering k hb h7 hcpl hin, by simp [hcpl, Untouched]⟩

end Sys2Proof.Machine
end

section
/-! PROOFS. Reset and hazards (70_reset_and_hazards.md): what RESET leaves in IDLE and in the middle of an operation
(R140, R141), the history after reset, the literals kept for correction (R156), and the sensor's pending request after
a failure (R158). -/

namespace Sys2Proof.Machine

/-! ### The pending request after a failure -/

/-- From an undriven completion port, an edge that drives a completion either ends the operation `Ok` or reports an
answer that failed, and a failed primitive leaves the pending request unknown (R158). -/
theorem EdgeCase.ok_or_pend_none {e : Edge} {s t : State} {c : Completion} (h : EdgeCase e s t) (hs : s.cpl = none)
    (hc : t.cpl = some c) : (∃ r, c = .ok r) ∨ t.pend = none := by
  cases h with
  | reset => cases hc
  | wait | accept => simp [hs] at hc
  | cSel a | cDesel a | dSel a =>
    simp only [selectForCommand_eq_settlePin, deselectAfterCommand_eq_settlePin, selectForData_eq_settlePin] at hc
    obtain ⟨d, rfl, -⟩ := settlePin_completion hs hc
    exact .inr rfl
  | cXfer f a =>
    obtain ⟨d, rfl, -⟩ := transferCommand_completion hs hc
    exact .inr rfl
  | dXfer a =>
    obtain ⟨d, rfl, -⟩ := transferData_completion hs hc
    exact .inr rfl
  | done r => cases hc; exact .inl ⟨r, rfl⟩
  | lost d => exact .inr rfl

/-- Settles O59: the edge clears the completion port, so an error it drives is that of a primitive which failed. -/
theorem pendingRequestAfterFailureIsUnknown : Obligations.PendingRequestAfterFailureIsUnknown := by
  intro s t e rest hin h
  have okOrUnknown {c : Completion} (hc : t.cpl = some c) : (∃ r, c = .ok r) ∨ t.pend = none :=
    (edgeCase_of_step hin h).ok_or_pend_none rfl hc
  exact ⟨fun _ hc => (okOrUnknown hc).resolve_left (by simp), fun _ hc => (okOrUnknown hc).resolve_left (by simp)⟩

/-! ### RESET -/

theorem lineAfterReset_idle {s : State} (h : s.ph = .idle) : lineAfterReset s = s.cfg.csReset := by
  simp [lineAfterReset, h]

theorem lineAfterReset_busy {s : State} (h : s.ph ≠ .idle) : lineAfterReset s = .unknown := by
  cases hp : s.ph with
  | idle => exact absurd hp h
  | cSel | cXfer | cDesel | dSel | dXfer | dDesel | seven => simp [lineAfterReset, hp]

theorem pendAfterReset_transfer {s : State} (h : s.ph = .cXfer ∨ s.ph = .dXfer) : pendAfterReset s = none := by
  rcases h with h | h <;> simp [pendAfterReset, h]

theorem pendAfterReset_eq_pend {s : State} (hc : s.ph ≠ .cXfer) (hd : s.ph ≠ .dXfer) : pendAfterReset s = s.pend := by
  cases hp : s.ph with
  | cXfer => exact absurd hp hc
  | dXfer => exact absurd hp hd
  | idle | cSel | cDesel | dSel | dDesel | seven => simp [pendAfterReset, hp]

/-- Settles O15: in IDLE the line goes to CS_RESET and no transfer is in flight. -/
theorem resetFromIdle : Obligations.ResetFromIdle := by
  intro s h
  have hpend : pendAfterReset s = s.pend := pendAfterReset_eq_pend (by simp [h]) (by simp [h])
  exact ⟨_, _, by rw [exec_reset, lineAfterReset_idle h, hpend]⟩

/-- Settles O16: outside IDLE the line is UNKNOWN, and only a transfer in flight makes the pending request so. -/
theorem resetDuringOperation : Obligations.ResetDuringOperation := by
  intro s h
  exact ⟨_, _, _, by rw [exec_reset, lineAfterReset_busy h], pendAfterReset_transfer, pendAfterReset_eq_pend⟩

/-! ### The history after reset -/

theorem busSafe_of_empty {s : State} (he : s.events = []) : BusSafe s := by
  simp [BusSafe, he]

/-- Settles O39: the history after reset is empty and PH is IDLE. -/
theorem resetHistoryIsOfBlocks : Obligations.ResetHistoryIsOfBlocks :=
  ⟨historyOfBlocks_of_empty rfl rfl, busSafe_of_empty rfl⟩

/-! ### The literals and the scenarios -/

theorem literalsAgree_standard : Config.standard.literalsAgree = true := by
  decide

/-- The frames of S6, S7 and S8, whose last is that of the §8 example. -/
theorem map_frameOfBytes_scenarioBytes : Config.standard.lits.scenarioBytes.map (fun b => frameOfBytes b.1 b.2) =
    [0x3FFF#16, 0xFFFF#16, 0x0000#16, 0x1234#16] := by
  decide

/-- POST over the scenario bytes, as POST over their frames. -/
theorem map_post_scenarioBytes (op : OpCode) :
    (Config.standard.lits.scenarioBytes.map fun b => post Config.standard op (frameOfBytes b.1 b.2)) =
      [0x3FFF#16, 0xFFFF#16, 0x0000#16, 0x1234#16].map (post Config.standard op) := by
  rw [← map_frameOfBytes_scenarioBytes, List.map_map]
  rfl

theorem post_zero_standard : post Config.standard 0 = fun v => some (.diagGain (respDiag v) (respGain v)) :=
  funext fun v => post_zero_scenario_source v rfl rfl

theorem post_one_standard : post Config.standard 1 = fun v => some (.value (respVal v)) :=
  funext fun v => post_value_source v rfl (.inl rfl)

theorem enc_addrAngle_standard : enc Config.standard.addrAngle = 0xFFFF#16 :=
  Option.some.inj (congrArg (·[6]?) map_encr_standard)

/-- Settles O60: the record's check, POST over the scenario frames, and Angle's frame in the Register Map. -/
theorem sourceScenarios : Obligations.SourceScenarios := by
  refine ⟨literalsAgree_standard, ?_, ?_, by decide, by decide, enc_addrAngle_standard⟩
  · refine (congrArg (List.take 3) (map_post_scenarioBytes 1)).trans ?_
    rw [post_one_standard]
    decide
  · refine (congrArg (List.drop 3) (map_post_scenarioBytes 0)).trans ?_
    rw [post_zero_standard]
    decide

end Sys2Proof.Machine
end

section
/-! PROOFS. A program line that is neither a read frame nor the nop (R61, R70; log 26): the decoder gives it no
instruction, so the step refuses it in every state. -/

namespace Sys2Proof.Machine

theorem decodeCommand_of_write {c : Config} {w : Frame} (hread : frameRead w = false) (hnop : w ≠ nopFrame) :
    decodeCommand c w = .error .writeFrame := by
  simp [decodeCommand, hread, hnop]

theorem act_ofDecode_error {d : Except DecodeError Instr} {e : DecodeError} (h : d = .error e) (s : State) :
    act (Action.ofDecode d) s = .refused (.undecodable e) := by
  rw [h]; rfl

/-- Settles O33: the step of a program line is that of its decoded word, and a write frame decodes to nothing. -/
theorem writeFrameIsRefused : Obligations.WriteFrameIsRefused := by
  intro s w rest hin hread hnop
  rw [step_of_form hin]
  exact act_ofDecode_error (decodeCommand_of_write hread hnop) (s.setInputs rest)

end Sys2Proof.Machine
end
